-- ==== Sys2Proof/Word.lean ====
section
/-!
DEFINITION. The words the controller's spec counts in: bytes of the link (13.1), device clock ticks, station
numbers 0 to 3, station sets as bitmaps (R191), and a container that holds one value per station.
-/

namespace Sys2Proof

/-- One byte of a frame or of a record (13.1). -/
abbrev Byte := BitVec 8

/-- A time or a length of time in ticks of 25 ns, the finest time the spec counts (R1). -/
abbrev Ticks := Nat

/-- A station number, 0 to 3. -/
abbrev StationId := Fin 4

/-- A set of stations "as bits 0 to 3" of one byte (13.3, R191); bits 4 to 7 are 0 in every set the device holds. -/
abbrev StationSet := BitVec 8

/-- Membership of a station in a set. -/
def setHas (b : StationSet) (i : StationId) : Bool := b.getLsbD i.val

/-- One value for each of the four stations. -/
structure Quad (α : Type) where
  s0 : α
  s1 : α
  s2 : α
  s3 : α
deriving DecidableEq, Repr

/-- The value of station `i`. -/
def Quad.get {α : Type} (q : Quad α) (i : StationId) : α :=
  match i with
  | 0 => q.s0
  | 1 => q.s1
  | 2 => q.s2
  | 3 => q.s3

/-- Replace the value of station `i`. -/
def Quad.set {α : Type} (q : Quad α) (i : StationId) (a : α) : Quad α :=
  match i with
  | 0 => { q with s0 := a }
  | 1 => { q with s1 := a }
  | 2 => { q with s2 := a }
  | 3 => { q with s3 := a }

/-- The same value at every station. -/
def Quad.all {α : Type} (a : α) : Quad α := ⟨a, a, a, a⟩

/-- Apply a function at every station. -/
def Quad.map {α β : Type} (f : α → β) (q : Quad α) : Quad β := ⟨f q.s0, f q.s1, f q.s2, f q.s3⟩

/-- The stations in ascending order. -/
def stationsInOrder : List StationId := [0, 1, 2, 3]

end Sys2Proof
end

