-- ==== Sys2Proof/Syntax.lean ====
section
/-!
DEFINITION. The commands of the controller: one constructor of `Instr` per row of spec/opcode_table.json, and the
operand records they carry. The table gives no operands; they are the ones the rules give the event or the request
(assumption log 1).

Operands that recur:
* `dt`: the ticks of 25 ns that pass between the step before and this event, for an event whose moment comes from outside
  (an edge, a character, a request). An event that is the expiry of a timer, or that falls on a fixed time grid, carries
  none: its moment is the timer's or the grid's (assumption log 2).
* `i`: the station whose pin or timer the event belongs to.
* `st`: the station byte of a request, 0 to 255, as the frame carries it (R172).
* raw numbers (`mode`, `cyclic`, source numbers, the bytes of `DeviceValues`): operand bytes as carried, so that an
  unknown value is refused where the spec refuses it (R172, R192).
-/

namespace Sys2Proof

/-- The gap tuning values of a station, in the order of 13.3 (TUNE GAP). -/
structure GapTuning where
  k : Nat
  d : Nat
  pulseGain : Nat
  tMin : Nat
  tMax : Nat
  settle : Nat
  pulseLimit : Nat
  closePower : Nat
  loadWait : Nat
  trimThreshold : Nat
  resumeDwell : Nat
  reliefHold : Nat
  trampWindow : Nat
  trampLimit : Nat
  calPulse : Nat
  calPulseLimit : Nat
  emptyLevel : Nat
  idlePower : Nat
  drainTimeout : Nat
  r0 : Nat
  w0 : Nat
  travelRate : Nat
  simContact : Nat
  reliefDisp : Nat
deriving DecidableEq, Repr

/-- The feed tuning values of a station, in the order of 13.3 (TUNE FEED). -/
structure FeedTuning where
  targetLevel : Nat
  hMount : Nat
  kp : Nat
  ki : Nat
  slew : Nat
  rateMin : Nat
  rateMax : Nat
  blindRate : Nat
  levelLostTimeout : Nat
  controlInterval : Nat
  powerLimit : Nat
  runPower : Nat
  ep : Nat
  fLo : Nat
  fHi : Nat
  scaleMass : Nat
  downstream : StationSet
  chainDelay : Nat
deriving DecidableEq, Repr

/-- The commissioning limits of a station (SET LIMITS, 13.2). -/
structure Limits where
  cssMin : Nat
  cssMax : Nat
  pMin : Nat
  pMax : Nat
  wMax : Nat
  powerTrip : Nat
deriving DecidableEq, Repr

/-- One step of a schedule: a target in µm and a lot size in kg (R151). -/
structure ScheduleStep where
  target : Nat
  lotSize : Nat
deriving DecidableEq, Repr

/-- The operands of CONFIGURE DEVICE as carried (13.2): the presence, filter clock and panel set bytes are raw. -/
structure DeviceValues where
  presence : Byte
  filterClock : Nat
  leanTime : Nat
  lotSize : Nat
  checkpoint : Nat
  panelSet : Nat
deriving DecidableEq, Repr

/-- The two filtered inputs of a station (1.4). -/
inductive FilterInput where
  | scale
  | tramp
deriving DecidableEq, Repr

/-- One sample of a filter clock tick: which filter takes it and the level on its pin. -/
structure FilterSample where
  station : StationId
  input : FilterInput
  level : Bool
deriving DecidableEq, Repr

/-- Why a frame in RECEIVE is discarded by FRAME_DISCARD (R168, R169). -/
inductive DiscardReason where
  | noStopBit
  | lengthAbove200
  | badCrc
deriving DecidableEq, Repr

/-- The commands: one constructor per row of spec/opcode_table.json, in the table's order. -/
inductive Instr where
  | powerOn (dt : Ticks)
  | supplyLoss (dt : Ticks)
  | resetInput (dt : Ticks)
  | resetRelease (dt : Ticks)
  | startUpEnd (dt : Ticks) (addr : BitVec 5) (rate : Bool)
  | positionInterrogation (i : StationId)
  | posReturnLeadingEdge (dt : Ticks) (i : StationId)
  | posReturnTrailingEdge (dt : Ticks) (i : StationId)
  | noReturnTimeout (i : StationId)
  | widthTooLong (i : StationId)
  | echoTrigger (i : StationId)
  | echoRisingEdge (dt : Ticks) (i : StationId)
  | echoWindowExpiry (i : StationId)
  | levelLostTimeout (i : StationId)
  | powerPulse (dt : Ticks) (i : StationId)
  | staleExpiry (i : StationId)
  | scaleFilterDefined (dt : Ticks) (i : StationId) (level : Bool)
  | scalePulse (dt : Ticks) (i : StationId)
  | scaleInactiveTransition (dt : Ticks) (i : StationId)
  | trampOnset (dt : Ticks) (i : StationId)
  | trampClearance (dt : Ticks) (i : StationId)
  | trampListAgeing (i : StationId)
  | reliefHoldExpiry (i : StationId)
  | settleExpiry (i : StationId)
  | pulseTimerExpiry (i : StationId)
  | loadWaitExpiry (i : StationId)
  | resumeDwellExpiry (i : StationId)
  | quietTimerExpiry (i : StationId)
  | drainTimeoutExpiry (i : StationId)
  | seekSettleExpiry (i : StationId)
  | testTrampExpiry (i : StationId)
  | controlInterval (i : StationId)
  | chainTimerExpiry (i : StationId)
  | feedHalfEnd (i : StationId)
  | feedPeriodEnd (i : StationId)
  | leanTimerExpiry (i : StationId)
  | storeWriteComplete (wait : Ticks)
  | panelFrame
  | frameDiscard (dt : Ticks) (why : DiscardReason)
  | interCharacterTimeout
  | resyncSilence
  | frameForOtherDevice (dt : Ticks)
  | frameBegunDuringReply (dt : Ticks)
  | unknownKind (dt : Ticks) (kind : Byte)
  | replyStart (wait : Ticks)
  | replyComplete
  | setGapAppend (dt : Ticks) (st target tag : Nat)
  | setGapReplace (dt : Ticks) (st target tag : Nat)
  | cancelGapPending (dt : Ticks) (st : Nat)
  | cancelGapActive (dt : Ticks) (st : Nat)
  | cancelGapAll (dt : Ticks) (st : Nat)
  | suspendMove (dt : Ticks) (st : Nat)
  | resumeMove (dt : Ticks) (st : Nat)
  | calibrate (dt : Ticks) (st : Nat)
  | changeLiners (dt : Ticks) (st : Nat)
  | tuneGap (dt : Ticks) (st : Nat) (v : GapTuning)
  | setLimits (dt : Ticks) (st : Nat) (v : Limits) (key : Bool)
  | setFeed (dt : Ticks) (bcast : Bool) (st mode rate : Nat)
  | tuneFeed (dt : Ticks) (st : Nat) (v : FeedTuning)
  | loadSchedule (dt : Ticks) (st : Nat) (steps : List ScheduleStep)
  | runScheduleStart (dt : Ticks) (st mode cyclic : Nat)
  | runScheduleStop (dt : Ticks) (st mode cyclic : Nat)
  | runScheduleAdvance (dt : Ticks) (st mode cyclic : Nat)
  | readLot (dt : Ticks)
  | isolate (dt : Ticks) (st : Nat)
  | releaseIsolate (dt : Ticks) (st : Nat)
  | dryRunOn (dt : Ticks) (st : Nat)
  | dryRunOff (dt : Ticks) (st : Nat)
  | testTramp (dt : Ticks) (st duration : Nat)
  | halt (dt : Ticks) (bcast : Bool) (st : Nat)
  | resetStation (dt : Ticks) (st : Nat)
  | clearFault (dt : Ticks) (st : Nat)
  | readStation (dt : Ticks) (st : Nat)
  | readWear (dt : Ticks) (st : Nat)
  | readDevice (dt : Ticks) (key : Bool)
  | readAttention (dt : Ticks)
  | clearAttention (dt : Ticks) (sources : List Nat)
  | maskAttentionSet (dt : Ticks) (sources : List Nat)
  | maskAttentionClear (dt : Ticks) (sources : List Nat)
  | raiseAttention (dt : Ticks) (sources : List Nat)
  | store (dt : Ticks)
  | configureDevice (dt : Ticks) (v : DeviceValues)
  | filterClockTick (samples : List FilterSample)
  | characterReceived (dt : Ticks) (byte : Byte) (stopBit key : Bool)
  | panelBit
deriving DecidableEq, Repr

end Sys2Proof
end

