-- ==== Sys2Proof/Decode.lean ====
section
/-!
DEFINITION. The command a word spells by the bits of spec/opcode_table.json. No row of this table gives bits (its rows
are events and requests, and "n_rows_with_fixed" is 0 in spec/98_reader.md), so no word spells a command. The byte
encodings the host sees on the link are in Machine/Link.lean and Machine/Records.lean.
-/

namespace Sys2Proof

/-- No row of the table carries bits: no word spells a command. -/
def decodeTableWord (_nbits _w : Nat) : Option Instr := none

end Sys2Proof
end

