-- ==== Sys2Proof/Config.lean ====
section
/-!
DEFINITION. What the spec leaves open and the model keeps open. R149 says that lot records of different stations
that close at the same moment "join in either order", and gives no order in which one event that names every
station works through them; the order is a free value (assumption log 8). R148 gives the mass counter a range and does not say
what a delivery beyond it leaves; that value is free (assumption log 17).
-/

namespace Sys2Proof.Config

/-- DESIGN CHOICE (assumption log 8): a free value, with no body. The `n`-th time an order of the four stations is left
open, this names the order, as an index into `Machine.stationOrders` (taken modulo its length). Nothing may be proved
about its value. -/
opaque turnOrder : Nat → Nat

/-- DESIGN CHOICE (assumption log 17): a free value, with no body. What a delivery of `m` leaves in a mass
counter of `mass` where the sum is beyond the counter's range (taken modulo 2^48). Nothing may be proved about its value. -/
opaque massBeyond : (mass m : Nat) → Nat

end Sys2Proof.Config
end

