-- ==== Sys2Proof/Machine/Arith.lean ====
section
/-!
DEFINITION. Plain arithmetic of the spec: units of time, clamps and roundings (00_scope.md, "Rounding"), the time grids of
R1, R5, R13 and R182, byte order (R191) and the CRC-16 of R169.
-/

namespace Sys2Proof.Machine

/-- Microseconds in ticks of 25 ns. -/
def usTicks (n : Nat) : Ticks := n * 40

/-- Milliseconds in ticks of 25 ns. -/
def msTicks (n : Nat) : Ticks := n * 40000

/-- Seconds in ticks of 25 ns. -/
def secTicks (n : Nat) : Ticks := n * 40000000

/-- The clamp of a value to [lo, hi]: "a where the value is below a, b where it is above b, and the value itself
otherwise". -/
def clampTo (lo hi v : Nat) : Nat := if v < lo then lo else if hi < v then hi else v

/-- The same clamp on signed values. -/
def clampInt (lo hi v : Int) : Int := if v < lo then lo else if hi < v then hi else v

/-- A quotient by 256 "rounded to nearest, halves away from zero" (R125). -/
def divAway256 (n : Int) : Int :=
  if 0 ≤ n then ((n.natAbs + 128) / 256 : Nat) else -(((n.natAbs + 128) / 256 : Nat) : Int)

/-- The distance of two counts. -/
def apart (a b : Nat) : Nat := if a ≤ b then b - a else a - b

/-- The least time of the grid `base + k * period` that is not before `t`. -/
def gridCeil (base period t : Ticks) : Ticks := base + ((t - base + (period - 1)) / period) * period

/-- The least time of the grid `base + k * period` that is after `t`. -/
def gridNext (base period t : Ticks) : Ticks := base + ((t - base) / period + 1) * period

/-- The orders in which four stations can be taken one after another. -/
def stationOrders : List (List StationId) :=
  [[0, 1, 2, 3], [0, 1, 3, 2], [0, 2, 1, 3], [0, 2, 3, 1], [0, 3, 1, 2], [0, 3, 2, 1],
   [1, 0, 2, 3], [1, 0, 3, 2], [1, 2, 0, 3], [1, 2, 3, 0], [1, 3, 0, 2], [1, 3, 2, 0]] ++
  [[2, 0, 1, 3], [2, 0, 3, 1], [2, 1, 0, 3], [2, 1, 3, 0], [2, 3, 0, 1], [2, 3, 1, 0],
   [3, 0, 1, 2], [3, 0, 2, 1], [3, 1, 0, 2], [3, 1, 2, 0], [3, 2, 0, 1], [3, 2, 1, 0]]

/-- `n` in `w` bytes, "most significant byte first" (R191). -/
def beBytes : (w : Nat) → Nat → List Byte
  | 0, _ => []
  | w + 1, n => BitVec.ofNat 8 (n / 256 ^ w) :: beBytes w n

/-- The number that bytes spell, most significant first (R191). -/
def fromBytes (bs : List Byte) : Nat := bs.foldl (fun acc b => acc * 256 + b.toNat) 0

/-- One shift of the CRC-16 with the generator polynomial 1021h (R169). -/
def crcShift (crc : BitVec 16) : BitVec 16 :=
  if crc.msb then (crc <<< 1) ^^^ 0x1021#16 else crc <<< 1

/-- `n` shifts of the CRC. -/
def crcShifts : Nat → BitVec 16 → BitVec 16
  | 0, crc => crc
  | n + 1, crc => crcShifts n (crcShift crc)

/-- One byte enters the CRC, most significant bit first (R169). -/
def crcByte (crc : BitVec 16) (b : Byte) : BitVec 16 :=
  crcShifts 8 (crc ^^^ (BitVec.ofNat 16 (b.toNat * 256)))

/-- The CRC-16 of bytes, with the initial value FFFFh (R169). -/
def crc16 (bs : List Byte) : BitVec 16 := bs.foldl crcByte 0xFFFF#16

/-- The two CRC bytes of a frame, most significant first. -/
def crcBytes (bs : List Byte) : List Byte := beBytes 2 (crc16 bs).toNat

/-- A set of the device from the stations that satisfy a test (R191: stations as bits 0 to 3). -/
def setOf (p : StationId → Bool) : StationSet :=
  stationsInOrder.foldl (fun b i => if p i then b ||| (1#8 <<< i.val) else b) 0#8

/-- A station joins a set. -/
def setInsert (b : StationSet) (i : StationId) : StationSet := b ||| (1#8 <<< i.val)

/-- A station leaves a set. -/
def setErase (b : StationSet) (i : StationId) : StationSet := b &&& ~~~(1#8 <<< i.val)

/-- One sample at a defined filter of R13: the accepted level, the agreement run, and whether this sample is the third
consecutive one that differs (the accepted transition). -/
def filterStep (level : Bool) (run : Nat) (sample : Bool) : Bool × Nat × Bool :=
  if sample = level then (level, 0, false)
  else if run + 1 ≥ 3 then (sample, 0, true)
  else (level, run + 1, false)

end Sys2Proof.Machine
end

