-- ==== Sys2Proof/Machine/Operands.lean ====
section
/-!
DEFINITION. The ranges and defaults of every stored value (the tables of R188 and R189), and the clamps with which
TUNE GAP, TUNE FEED, SET LIMITS, LOAD SCHEDULE and CONFIGURE DEVICE bring their operands into range (R58, R134, R60,
R151, R189).
-/

namespace Sys2Proof.Machine

/-- Gap tuning defaults (R188). -/
def gapTuningDefault : GapTuning :=
  { k := 3072, d := 4, pulseGain := 10, tMin := 50, tMax := 1500, settle := 800, pulseLimit := 24, closePower := 1800,
    loadWait := 60, trimThreshold := 500, resumeDwell := 2000, reliefHold := 5, trampWindow := 600, trampLimit := 3,
    calPulse := 200, calPulseLimit := 400, emptyLevel := 300, idlePower := 600, drainTimeout := 180, r0 := 80,
    w0 := 2000, travelRate := 100, simContact := 40000, reliefDisp := 600 }

/-- Feed tuning defaults (R188). -/
def feedTuningDefault : FeedTuning :=
  { targetLevel := 1800, hMount := 2400, kp := 512, ki := 64, slew := 40, rateMin := 100, rateMax := 1000,
    blindRate := 400, levelLostTimeout := 30, controlInterval := 500, powerLimit := 2200, runPower := 300, ep := 50,
    fLo := 1000, fHi := 50000, scaleMass := 10, downstream := 0#8, chainDelay := 20 }

/-- Limit defaults (R188). -/
def limitsDefault : Limits :=
  { cssMin := 10000, cssMax := 60000, pMin := 0, pMax := 65535, wMax := 8000, powerTrip := 3000 }

/-- Each gap tuning value clamped into its range (R58, ranges of R188). -/
def gapTuningInRange (v : GapTuning) : GapTuning :=
  { k := clampTo 256 65535 v.k
    d := clampTo 1 255 v.d
    pulseGain := clampTo 1 255 v.pulseGain
    tMin := clampTo 20 500 v.tMin
    tMax := clampTo 100 5000 v.tMax
    settle := clampTo 100 10000 v.settle
    pulseLimit := clampTo 4 64 v.pulseLimit
    closePower := clampTo 0 65535 v.closePower
    loadWait := clampTo 5 600 v.loadWait
    trimThreshold := clampTo 0 20000 v.trimThreshold
    resumeDwell := clampTo 0 10000 v.resumeDwell
    reliefHold := clampTo 1 60 v.reliefHold
    trampWindow := clampTo 60 3600 v.trampWindow
    trampLimit := clampTo 2 8 v.trampLimit
    calPulse := clampTo 50 1000 v.calPulse
    calPulseLimit := clampTo 50 1000 v.calPulseLimit
    emptyLevel := clampTo 0 5000 v.emptyLevel
    idlePower := clampTo 0 65535 v.idlePower
    drainTimeout := clampTo 30 900 v.drainTimeout
    r0 := clampTo 0 10000 v.r0
    w0 := clampTo 0 65535 v.w0
    travelRate := clampTo 1 1000 v.travelRate
    simContact := clampTo 0 65535 v.simContact
    reliefDisp := clampTo 0 10000 v.reliefDisp }

/-- TUNE GAP's values as taken: each in its range, and Tmax raised to Tmin where it is below it (R58). -/
def gapTuningTaken (v : GapTuning) : GapTuning :=
  let c := gapTuningInRange v
  { c with tMax := if c.tMax < c.tMin then c.tMin else c.tMax }

/-- Each feed tuning value clamped into its range (R134, ranges of R188). The minima of rate_max and f_hi are applied by the
adjustments of `feedTuningTaken`. -/
def feedTuningInRange (v : FeedTuning) : FeedTuning :=
  { targetLevel := clampTo 0 5000 v.targetLevel
    hMount := clampTo 500 8000 v.hMount
    kp := clampTo 0 4095 v.kp
    ki := clampTo 0 4095 v.ki
    slew := clampTo 1 200 v.slew
    rateMin := clampTo 0 1000 v.rateMin
    rateMax := clampTo 0 1000 v.rateMax
    blindRate := clampTo 0 1000 v.blindRate
    levelLostTimeout := clampTo 5 300 v.levelLostTimeout
    controlInterval := clampTo 250 2000 v.controlInterval
    powerLimit := clampTo 0 65535 v.powerLimit
    runPower := clampTo 0 65535 v.runPower
    ep := clampTo 1 1000 v.ep
    fLo := clampTo 10 100000 v.fLo
    fHi := clampTo 10 100000 v.fHi
    scaleMass := clampTo 1 100 v.scaleMass
    downstream := v.downstream
    chainDelay := clampTo 1 600 v.chainDelay }

/-- TUNE FEED's values as taken: each in its range, then rate_max and blind rate raised to rate_min and f_hi to f_lo where
they are below (R134). -/
def feedTuningTaken (v : FeedTuning) : FeedTuning :=
  let c := feedTuningInRange v
  { c with
    rateMax := if c.rateMax < c.rateMin then c.rateMin else c.rateMax
    blindRate := if c.blindRate < c.rateMin then c.rateMin else c.blindRate
    fHi := if c.fHi < c.fLo then c.fLo else c.fHi }

/-- SET LIMITS' values as taken: CSSmin and Pmin clamped first, then CSSmax and Pmax against the clamped minima (R60). -/
def limitsTaken (v : Limits) : Limits :=
  let cssMin := clampTo 1000 300000 v.cssMin
  let pMin := clampTo 0 65535 v.pMin
  { cssMin := cssMin
    cssMax := clampTo cssMin 300000 v.cssMax
    pMin := pMin
    pMax := clampTo pMin 65535 v.pMax
    wMax := clampTo 0 100000 v.wMax
    powerTrip := clampTo 0 65535 v.powerTrip }

/-- A schedule step as taken: the lot size clamped, the target carried as given (R151). -/
def scheduleStepTaken (p : ScheduleStep) : ScheduleStep :=
  { p with lotSize := clampTo 1000 100000000 p.lotSize }

/-- The numeric device values clamped into their ranges (R189). -/
def deviceValuesTaken (v : DeviceValues) : DeviceValues :=
  { v with
    leanTime := clampTo 10 600 v.leanTime
    lotSize := clampTo 1000 100000000 v.lotSize
    checkpoint := clampTo 0 1000000 v.checkpoint }

end Sys2Proof.Machine
end

