-- ==== Sys2Proof/Machine/Geometry.lean ====
section
/-!
DEFINITION. The arithmetic of chapter 2 (gap geometry and wear), of the measured wear and rate of chapter 6, of the level and
power readings of chapter 1, of the control step and the feeder period of chapter 7 and of the mean power of chapter 8, as
functions of numbers alone.
-/

namespace Sys2Proof.Machine

/-- The geometric CSS of a position `p` against a zero `z` and a gain `k` (R24): 0 beyond the zero. -/
def geometricCss (z k p : Nat) : Nat := if p ≤ z then ((z - p) * k + 128) / 256 else 0

/-- The wear estimate (R27). -/
def wearEstimate (wMax mCal r : Nat) : Nat := min wMax (mCal * r / 100000)

/-- The effective target of a requested target (R31). -/
def effectiveTarget (lim : Limits) (t : Nat) : Nat := clampTo lim.cssMin lim.cssMax t

/-- The target stroke of an effective target under a wear estimate (R32). -/
def targetStroke (k tEff w : Nat) : Nat := ((tEff - w) * 256 + k / 2) / k

/-- The raw target position: `Z - C`, or 0 where `C > Z` (R33). -/
def rawTarget (z c : Nat) : Nat := z - c

/-- What one target fix point computes (R35): the effective target, P_t and STROKE_CLAMPED. -/
structure FixPoint where
  eff : Nat
  pt : Nat
  strokeClamped : Bool
deriving DecidableEq, Repr

/-- The target fix point of a target `t` (R31 to R33, R35). -/
def fixPoint (lim : Limits) (k z w t : Nat) : FixPoint :=
  let eff := effectiveTarget lim t
  let raw := rawTarget z (targetStroke k eff w)
  let pt := clampTo lim.pMin lim.pMax raw
  { eff := eff, pt := pt, strokeClamped := pt != raw }

/-- The width in ms of a pulse of the loop (R37). -/
def pulseWidth (g : GapTuning) (pt p : Nat) : Nat := clampTo g.tMin g.tMax (apart pt p * g.pulseGain)

/-- The counts a simulated pulse travels in `t` ms (R159). -/
def simTravel (g : GapTuning) (t : Nat) : Nat := t * g.travelRate / 1000

/-- The measured wear of a contact against the old zero, signed (R108). -/
def measuredWear (k zOld zNew : Nat) : Int :=
  if zNew < zOld then -((((zOld - zNew) * k + 128) / 256 : Nat) : Int)
  else (((zNew - zOld) * k + 128) / 256 : Nat)

/-- The measured rate, at most 10,000 (R109); `wm` is the measured wear of a NORMAL calibration. -/
def measuredRate (wm mCal : Nat) : Nat := min 10000 (wm * 100000 / mCal)

/-- The wear rate after a NORMAL calibration: the weighted mean rounded half up (R109). -/
def blendedRate (r rm : Nat) : Nat := (3 * r + rm + 2) / 4

/-- The level of an echo time in µs (R6). -/
def levelOfEcho (hMount us : Nat) : Nat :=
  clampTo 0 hMount (hMount - (us * 343 + 1000) / 2000)

/-- An echo time is valid from 600 to 40,000 µs (R6). -/
def echoValid (us : Nat) : Bool := 600 ≤ us && us ≤ 40000

/-- The power reading of a period in µs, limited to 65,535 (R10). -/
def powerOfPeriod (ep us : Nat) : Nat := min 65535 (ep * 10000 / us)

/-- The change of demand of the AUTO step before the reasons act: Δ rounded and clamped to the slew (R125 steps 1 to 3). -/
def autoChange (t : FeedTuning) (e ePrev : Int) : Int :=
  clampInt (-(t.slew : Int)) t.slew (divAway256 ((t.kp : Int) * (e - ePrev) + (t.ki : Int) * e))

/-- The reasons act on a change: a reduce reason makes it minus the slew, a hold reason forbids a rise (R125 step 4). -/
def reasonedChange (t : FeedTuning) (hold reduce : Bool) (delta : Int) : Int :=
  if reduce then -(t.slew : Int) else if hold then min delta 0 else delta

/-- The demand after a change, clamped into [rate_min, rate_max] (R125 step 5). -/
def changedDemand (t : FeedTuning) (demand : Nat) (delta : Int) : Nat :=
  (clampInt t.rateMin t.rateMax ((demand : Int) + delta)).toNat

/-- The demand after a blind step (R127). -/
def blindDemand (t : FeedTuning) (demand : Nat) (reduce : Bool) : Nat :=
  (clampInt t.rateMin t.rateMax (min ((demand : Int) + (if reduce then -(t.slew : Int) else 0)) t.blindRate)).toNat

/-- The feeder period in µs of an output rate above 0 (R137). -/
def feederPeriod (t : FeedTuning) (r : Nat) : Nat :=
  let f := t.fLo + (t.fHi - t.fLo) * r / 1000
  (10000000 + f / 2) / f

/-- The mean power of a lot, where it is present (R147). -/
def meanPower (powerSum fresh intervals : Nat) : Option Nat :=
  if 1 ≤ fresh ∧ intervals ≤ 2 * fresh then some ((powerSum + fresh / 2) / fresh) else none

/-- A delivery of mass crosses a wear checkpoint (R186). -/
def crossesCheckpoint (c before after : Nat) : Bool := c != 0 && before / c < after / c

end Sys2Proof.Machine
end

