-- ==== Sys2Proof/Machine/Parts.lean ====
section
/-!
DEFINITION. The state of each block, as plain data: the measurement channels (chapter 1), the gap channel (chapters 2 to 6 and
9), the feed regulator (chapter 7), the lot accumulator and the schedule (chapter 8), and the device-wide blocks: link
(chapter 10), panel (chapter 11), settings store (chapter 12) and the pins.

A timer is an `Option Ticks`: the clock time of its expiry, or none where it is stopped.
-/

namespace Sys2Proof.Machine

/-! ## Measurement channels (chapter 1) -/

/-- The capture an interrogation opens (R1). -/
inductive Capture where
  /-- no capture open -/
  | closed
  /-- waiting for the leading edge since the start of the interrogation -/
  | waiting (since : Ticks)
  /-- counting the width since the leading edge -/
  | counting (since : Ticks)
deriving DecidableEq, Repr

/-- The position channel (R1 to R4, R19). -/
structure PositionChannel where
  /-- P, the last valid position -/
  p : Nat
  /-- position valid -/
  valid : Bool
  /-- a valid sample has completed, so the channel offers a latest valid position (R4) -/
  seen : Bool
  /-- the invalid-sample run, 0 to 3 -/
  run : Nat
  capture : Capture
  /-- the start of the last interrogation: POS OUT is active for 2 µs from it -/
  pulsedAt : Option Ticks
  /-- the earliest time of the next interrogation, on the 5 ms grid of R18 -/
  nextAt : Ticks
deriving DecidableEq, Repr

/-- The level channel (R5 to R8, R19). -/
structure LevelChannel where
  /-- the last valid level in mm -/
  last : Option Nat
  /-- the invalid-echo run, 0 to 3 -/
  run : Nat
  /-- the level-lost flag -/
  lost : Bool
  lostTimer : Option Ticks
  /-- the open echo window, by the start of its trigger -/
  window : Option Ticks
  /-- the start of the last trigger: ECHO OUT is active for 100 µs from it -/
  pulsedAt : Option Ticks
  /-- the earliest time of the next trigger, on the 100 ms grid of R18 -/
  nextAt : Ticks
deriving DecidableEq, Repr

/-- The power channel (R9 to R12, R19). -/
structure PowerChannel where
  /-- the held reading in 0.1 kW -/
  reading : Nat
  fresh : Bool
  /-- a period is open -/
  openPeriod : Bool
  /-- the time of the last accepted edge, kept to 1 µs: in whole µs of the model's clock (assumption log 19) -/
  lastEdge : Nat
  staleTimer : Option Ticks
deriving DecidableEq, Repr

/-- The scale filter (R13, R14). -/
inductive ScaleFilter where
  /-- not defined yet: the last sample and how many consecutive equal samples (0 to 2) have been seen -/
  | undefined (last : Bool) (count : Nat)
  /-- defined: the accepted level and the agreement run, 0 to 2 -/
  | defined (level : Bool) (run : Nat)
deriving DecidableEq, Repr

/-- The tramp filter (R13, R16). -/
structure TrampFilter where
  level : Bool
  run : Nat
deriving DecidableEq, Repr

/-! ## Gap channel (chapters 2 to 6 and 9) -/

/-- The nine gap channel states (R39). -/
inductive GapState where
  | unreferenced | idle | moving | suspended | relieved | restoring | calibrating | isolated | faulted
deriving DecidableEq, Repr

/-- The direction of a valve (R45). -/
inductive Dir where
  | opening | closing
deriving DecidableEq, Repr

/-- The kind of a move (R45). -/
inductive MoveKind where
  | setting | trim | restore | seek | backoff
deriving DecidableEq, Repr

/-- The origin of a setting entry or of a move (R42). -/
inductive Origin where
  | link | schedule | trim
deriving DecidableEq, Repr

/-- The result of a SETTING or TRIM move (R81). -/
inductive MoveResult where
  | complete | cancelled | halted | stalled | pulseLimit | loadTimeout | isolated | faulted
deriving DecidableEq, Repr

/-- The result of a calibration (R112). -/
inductive CalResult where
  | done | backoffFailed | notEmpty | noContact | aborted
deriving DecidableEq, Repr

/-- The flag of a wear history entry (R108). -/
inductive HistFlag where
  | normal | shortBasis | zeroJump | first
deriving DecidableEq, Repr

/-- The causes of FAULTED (9.5). -/
inductive FaultCause where
  | positionLost | trampRepeat | restoreStalled
deriving DecidableEq, Repr

/-- The phase of a move with the timer that belongs to it (chapter 4): leaving a phase drops its timer. -/
inductive MovePhase where
  /-- no phase: SUSPENDED, or a move held in a context -/
  | parked
  /-- SETTLE: the settle timer expires at `endsAt` -/
  | settle (endsAt : Ticks)
  /-- PULSE: begun at `startedAt`, `width` ms long -/
  | pulse (startedAt : Ticks) (width : Nat)
  /-- WAIT_LOAD: entered at `since`; the load-wait timer of a SETTING or TRIM move -/
  | waitLoad (since : Ticks) (timer : Option Ticks)
deriving DecidableEq, Repr

/-- A setting entry (R42). -/
structure SettingEntry where
  requested : Nat
  effective : Nat
  clamped : Bool
  origin : Origin
  tag : Option Nat
  step : Option Nat
deriving DecidableEq, Repr

/-- The move record (R45). -/
structure Move where
  kind : MoveKind
  origin : Option Origin
  tag : Option Nat
  /-- effective target in µm -/
  eff : Option Nat
  /-- target position in counts -/
  pt : Option Nat
  strokeClamped : Bool
  phase : MovePhase
  dir : Option Dir
  pBefore : Option Nat
  pulses : Nat
  noProgress : Nat
  pendingSuspend : Bool
  /-- the resume-dwell timer (R79) -/
  dwell : Option Ticks
  /-- load-wait time elapsed, in s, of the last visit to WAIT_LOAD (R72) -/
  loadWaited : Nat
deriving DecidableEq, Repr

/-- The interrupted-move context (R96). -/
structure Context where
  move : Move
  suspended : Bool
deriving DecidableEq, Repr

/-- The last move result (R82). -/
structure LastMove where
  result : MoveResult
  kind : MoveKind
  origin : Option Origin
  tag : Option Nat
  eff : Option Nat
  finalPos : Option Nat
  pulses : Nat
  strokeClamped : Bool
deriving DecidableEq, Repr

/-- The phases of a calibration (R39, R103). -/
inductive CalPhase where
  | drain | seek | backoff
deriving DecidableEq, Repr

/-- The calibration record (R103). -/
structure Calibration where
  phase : CalPhase
  pStart : Nat
  /-- the zero reference was valid at acceptance -/
  hadZero : Bool
  drainTimer : Option Ticks
  quietTimer : Option Ticks
  seekPulses : Nat
  zNew : Option Nat
deriving DecidableEq, Repr

/-- The last calibration result (R112). -/
structure LastCal where
  result : CalResult
  pStart : Nat
  zNew : Option Nat
  finalPos : Option Nat
  seekPulses : Nat
  backoffPulses : Option Nat
  calNumber : Nat
deriving DecidableEq, Repr

/-- A wear history entry (R114). -/
structure HistEntry where
  calNumber : Nat
  zOld : Option Nat
  zNew : Nat
  wm : Option Int
  mCal : Nat
  w : Nat
  r : Nat
  flag : HistFlag
deriving DecidableEq, Repr

/-- The contents of a station record (R184): the RAM copy a station works with, and what a write stores. -/
structure StationRecord where
  limits : Limits
  gapTuning : GapTuning
  feedTuning : FeedTuning
  /-- Z, the zero reference in counts -/
  z : Nat
  zValid : Bool
  /-- R, the wear rate in µm per 100,000 kg -/
  r : Nat
  /-- M_cal, the mass since calibration in kg -/
  mCal : Nat
  history : List HistEntry
  calNumber : Nat
deriving DecidableEq, Repr

/-- The unstored state of the gap channel. -/
structure GapChannel where
  state : GapState
  queue : List SettingEntry
  move : Option Move
  context : Option Context
  calibration : Option Calibration
  standing : Option Nat
  trimInhibit : Bool
  lastMove : Option LastMove
  lastCal : Option LastCal
  /-- W, the held wear estimate in µm -/
  w : Nat
  /-- the tramp onset list: running times in ms, oldest first -/
  onsets : List Nat
  pSave : Option Nat
  noRestore : Bool
  holdTimer : Option Ticks
  cause : Option FaultCause
  dryRun : Bool
  /-- the simulated position, while it is the position in use (R158) -/
  sim : Option Nat
  /-- the simulated tramp input of TEST TRAMP -/
  simTramp : Bool
  testTimer : Option Ticks
  /-- the OPEN valve output -/
  openOut : Bool
  /-- the CLOSE valve output -/
  closeOut : Bool
deriving DecidableEq, Repr

/-! ## Feed regulator (chapter 7) -/

/-- The feed modes (R117). -/
inductive FeedMode where
  | stop | manual | auto
deriving DecidableEq, Repr

/-- The stop set (R120), one flag per reason: each is in the set at most once. -/
structure StopSet where
  tramp : Bool
  calibration : Bool
  isolated : Bool
  dryRun : Bool
  fault : Bool
  notRunning : Bool
  overload : Bool
  levelLost : Bool
  downstream : Bool
deriving DecidableEq, Repr

/-- The waveform of a running FEED OUT (R138). -/
structure Wave where
  /-- the high half is in progress: FEED OUT is active -/
  high : Bool
  /-- the period in progress, in µs -/
  period : Nat
  pending : Option Nat
  /-- the end of the half in progress -/
  halfEnds : Ticks
deriving DecidableEq, Repr

/-- The feed regulator. -/
structure FeedRegulator where
  mode : FeedMode
  manualRate : Nat
  demand : Nat
  output : Nat
  prevError : Option Int
  stops : StopSet
  /-- the hold set: GAP_MOVE -/
  gapMove : Bool
  /-- the reduce set: GAP_LOAD_WAIT -/
  gapLoadWait : Bool
  /-- the reduce set: POWER_HIGH -/
  powerHigh : Bool
  controlTimer : Option Ticks
  chainTimer : Option Ticks
  /-- the downstream set in force (R133: a tuned set is applied at the next control interval) -/
  downstream : StationSet
  /-- TUNE FEED has been accepted since the last control interval (R124 step 3) -/
  tuned : Bool
  /-- the waveform, none while FEED OUT is held inactive -/
  wave : Option Wave
deriving DecidableEq, Repr

/-! ## Lot accumulator and schedule (chapter 8) -/

/-- The open lot (R141). -/
structure OpenLot where
  number : Nat
  size : Nat
  target : Option Nat
  step : Option Nat
  mass : Nat
  powerSum : Nat
  freshCount : Nat
  intervals : Nat
deriving DecidableEq, Repr

/-- Why a lot closed (R143 to R145). -/
inductive CloseReason where
  | full | short | cut
deriving DecidableEq, Repr

/-- A lot record (R146). -/
structure LotRecord where
  station : StationId
  number : Nat
  mass : Nat
  reason : CloseReason
  target : Option Nat
  step : Option Nat
  meanPower : Option Nat
  w : Nat
deriving DecidableEq, Repr

/-- The lot accumulator (R141). -/
structure LotAccumulator where
  lot : Option OpenLot
  nextNumber : Nat
  leanTimer : Option Ticks
  mass : Nat
  dropped : Nat
deriving DecidableEq, Repr

/-- The schedule states (8.5). -/
inductive SchedState where
  | empty | loaded | running | held | ended
deriving DecidableEq, Repr

/-- The advance modes (R151). -/
inductive AdvanceMode where
  | auto | manual
deriving DecidableEq, Repr

/-- A station's schedule (R151). -/
structure Schedule where
  state : SchedState
  steps : List ScheduleStep
  index : Nat
  mode : AdvanceMode
  cyclic : Bool
  pending : Bool
deriving DecidableEq, Repr

/-! ## A station -/

/-- All the state of one station. -/
structure Station where
  /-- the RAM copy of the station record -/
  record : StationRecord
  pos : PositionChannel
  level : LevelChannel
  power : PowerChannel
  scale : ScaleFilter
  tramp : TrampFilter
  gap : GapChannel
  feed : FeedRegulator
  lots : LotAccumulator
  sched : Schedule
deriving DecidableEq, Repr

/-! ## Device-wide blocks -/

/-- The filter clock (R13). -/
inductive FilterClock where
  | khz1 | hz250
deriving DecidableEq, Repr

/-- The panel set (R183). -/
inductive PanelSet where
  | normal | attention
deriving DecidableEq, Repr

/-- The contents of the device record (R184, R189). -/
structure DeviceRecord where
  presence : StationSet
  filterClock : FilterClock
  leanTime : Nat
  lotSize : Nat
  checkpoint : Nat
  panelSet : PanelSet
deriving DecidableEq, Repr

/-- A record of the settings store: its contents, and the check value it ends with (R184). -/
structure Stored (α : Type) where
  contents : α
  /-- the stored check value -/
  check : BitVec 16
deriving DecidableEq, Repr

/-- The five records of the settings store (R184). -/
structure Store where
  device : Stored DeviceRecord
  stations : Quad (Stored StationRecord)
deriving DecidableEq, Repr

/-- The writer of the settings store (R185): idle, or one record being written, with the RAM values copied when its write
began (R184) and the time it began. -/
inductive Writer where
  | idle
  | device (copy : DeviceRecord) (since : Ticks)
  | station (i : StationId) (copy : StationRecord) (since : Ticks)
deriving DecidableEq, Repr

/-- The receiver states (R167). -/
inductive Receiver where
  | resync | listen | receive | reply
deriving DecidableEq, Repr

/-- The message link (chapter 10). -/
structure Link where
  /-- the latched device address, 0 to 31 -/
  addr : Nat
  /-- the latched bit rate is 115,200 (RATE active) -/
  fast : Bool
  rx : Receiver
  /-- the characters of the frame under reception, after the start byte -/
  frame : List Byte
  /-- the running CRC -/
  crc : BitVec 16
  /-- the end of the last character on the line, or the start of the RESYNC wait -/
  lastChar : Ticks
  errors : Nat
  /-- the reply frame formed at the taking of a request -/
  reply : List Byte
  /-- the taking of the request being answered -/
  takenAt : Ticks
  /-- the driver of LINK A and LINK B: the time it began the reply -/
  driving : Option Ticks
  /-- the end of the last foreign character seen during this reply (R174) -/
  intruder : Option Ticks
deriving DecidableEq, Repr

/-- The panel output (R182). -/
structure Panel where
  /-- the 24 bits of the frame, bit 1 first -/
  bits : List Bool
  /-- the bit in progress, 0 to 23; none before the first frame -/
  index : Option Nat
  /-- the start of the frame in progress, or the time the first frame is due -/
  startedAt : Ticks
deriving DecidableEq, Repr

/-- What the device is doing as a whole (12.2). -/
inductive Phase where
  /-- no supply -/
  | off
  /-- the reset input is applied -/
  | reset
  | startUp
  | running
deriving DecidableEq, Repr

/-- The host-side input pins as last seen by the commands that read them. -/
structure Pins where
  /-- RESET is active -/
  reset : Bool
  /-- KEY, the keyswitch line -/
  key : Bool
  /-- ADDR4..ADDR0 -/
  addr : BitVec 5
  /-- RATE -/
  rate : Bool
  /-- SCALE IN of each station, as last sampled -/
  scale : Quad Bool
  /-- TRAMP IN of each station, as last sampled -/
  tramp : Quad Bool
deriving DecidableEq, Repr

end Sys2Proof.Machine
end

