-- ==== Sys2Proof/Machine/Stored.lean ====
section
/-!
DEFINITION. The records of the settings store (R184, R187): the bytes of their contents, the check value over them, the reading of a record
that passes its check, and the record that a cut write leaves. The spec gives the contents and the check, and not the order and the
widths of the stored bytes: those are the model's (assumption log 14).
-/

namespace Sys2Proof.Machine

/-! ## The bytes of the contents -/

/-- Values in their widths, one after another, each most significant byte first. -/
def fieldBytes : List (Nat × Nat) → List Byte
  | [] => []
  | (w, n) :: rest => beBytes w n ++ fieldBytes rest

/-- A Boolean as a number. -/
def flagNat (b : Bool) : Nat := if b then 1 else 0

/-- The limits, in the widths of 13.2. -/
def limitsBytes (v : Limits) : List Byte :=
  fieldBytes [(4, v.cssMin), (4, v.cssMax), (2, v.pMin), (2, v.pMax), (4, v.wMax), (2, v.powerTrip)]

/-- The gap tuning, in the widths of 13.3. -/
def gapTuningBytes (v : GapTuning) : List Byte :=
  fieldBytes [(2, v.k), (1, v.d), (1, v.pulseGain), (2, v.tMin), (2, v.tMax), (2, v.settle), (1, v.pulseLimit),
    (2, v.closePower), (2, v.loadWait), (2, v.trimThreshold), (2, v.resumeDwell), (1, v.reliefHold)] ++
  fieldBytes [(2, v.trampWindow), (1, v.trampLimit), (2, v.calPulse), (2, v.calPulseLimit), (2, v.emptyLevel),
    (2, v.idlePower), (2, v.drainTimeout), (2, v.r0), (2, v.w0), (2, v.travelRate), (2, v.simContact), (2, v.reliefDisp)]

/-- The feed tuning, the downstream set included, in the widths of 13.3. -/
def feedTuningBytes (v : FeedTuning) : List Byte :=
  fieldBytes [(2, v.targetLevel), (2, v.hMount), (2, v.kp), (2, v.ki), (1, v.slew), (2, v.rateMin), (2, v.rateMax),
    (2, v.blindRate), (2, v.levelLostTimeout)] ++
  fieldBytes [(2, v.controlInterval), (2, v.powerLimit), (2, v.runPower), (2, v.ep), (4, v.fLo), (4, v.fHi),
    (1, v.scaleMass), (1, v.downstream.toNat), (2, v.chainDelay)]

/-- The flag of a wear history entry as a number (13.4). -/
def HistFlag.code : HistFlag → Nat
  | .normal => 1
  | .shortBasis => 2
  | .zeroJump => 3
  | .first => 4

/-- A wear history entry; an absent value is a clear presence byte and zeros. -/
def HistEntry.bytes (e : HistEntry) : List Byte :=
  fieldBytes [(2, e.calNumber), (1, flagNat e.zOld.isSome), (2, e.zOld.getD 0), (2, e.zNew), (1, flagNat e.wm.isSome),
    (4, (BitVec.ofInt 32 (e.wm.getD 0)).toNat), (4, e.mCal), (3, e.w), (2, e.r), (1, e.flag.code)]

/-- The contents of a station record: limits, gap tuning, feed tuning, Z with its valid flag, R, M_cal, wear history and calibration number
(R184). -/
def StationRecord.bytes (r : StationRecord) : List Byte :=
  limitsBytes r.limits ++ gapTuningBytes r.gapTuning ++ feedTuningBytes r.feedTuning ++
  fieldBytes [(2, r.z), (1, flagNat r.zValid), (2, r.r), (4, r.mCal), (1, r.history.length)] ++
  r.history.flatMap HistEntry.bytes ++ fieldBytes [(2, r.calNumber)]

/-- The contents of the device record: presence, filter clock, lean time, default lot size, wear checkpoint and panel set (R184). -/
def DeviceRecord.bytes (d : DeviceRecord) : List Byte :=
  fieldBytes [(1, d.presence.toNat), (1, match d.filterClock with | .khz1 => 1 | .hz250 => 2), (2, d.leanTime),
    (4, d.lotSize), (4, d.checkpoint), (1, match d.panelSet with | .normal => 1 | .attention => 2)]

/-! ## The check -/

/-- A record as a completed write leaves it: its check value is the CRC-16 of its contents (R184). -/
def sealRecord {α : Type} (bytes : α → List Byte) (c : α) : Stored α := { contents := c, check := crc16 (bytes c) }

/-- A record whose contents fail its check, as a cut write leaves it (R187). Which contents and which check value stand there is the
model's choice; nothing reads them but the check (assumption log 4). -/
def spoilRecord {α : Type} (bytes : α → List Byte) (c : α) : Stored α := { contents := c, check := ~~~crc16 (bytes c) }

/-- A record is valid "when its stored check value equals the CRC of its stored contents" (R184): a valid record reads as its contents, an
invalid one as none. -/
def Stored.read {α : Type} (x : Stored α) (bytes : α → List Byte) : Option α :=
  if x.check = crc16 (bytes x.contents) then some x.contents else none

/-- The device record as start-up reads it. -/
def Store.deviceRecord (x : Store) : Option DeviceRecord := x.device.read DeviceRecord.bytes

/-- The record of station `i` as start-up reads it. -/
def Store.station (x : Store) (i : StationId) : Option StationRecord := (x.stations.get i).read StationRecord.bytes

end Sys2Proof.Machine
end

