-- ==== Sys2Proof/Machine/PowerOn.lean ====
section
/-!
DEFINITION. The values every block holds after power-on, after the reset input and when a station becomes present: R19 (channels),
R38 to R40, R85, 5.7, 6.9 (gap channel), R140 (regulator), R141, R151 (lots and schedule), R171 (link), R184, R189 (records).
-/

namespace Sys2Proof.Machine

/-- The contents a station takes where its record is invalid (R188). -/
def stationRecordDefault : StationRecord :=
  { limits := limitsDefault, gapTuning := gapTuningDefault, feedTuning := feedTuningDefault,
    z := 0, zValid := false, r := gapTuningDefault.r0, mCal := 0, history := [], calNumber := 0 }

/-- The contents the device takes where the device record is invalid (R189). -/
def deviceRecordDefault : DeviceRecord :=
  { presence := 0x0F#8, filterClock := .khz1, leanTime := 60, lotSize := 50000, checkpoint := 100000,
    panelSet := .normal }

/-- The position channel at power-on (R19). -/
def positionChannelFresh : PositionChannel :=
  { p := 0, valid := false, seen := false, run := 0, capture := .closed, pulsedAt := none, nextAt := 0 }

/-- The level channel at power-on (R19). -/
def levelChannelFresh : LevelChannel :=
  { last := none, run := 0, lost := false, lostTimer := none, window := none, pulsedAt := none, nextAt := 0 }

/-- The power channel at power-on (R19). -/
def powerChannelFresh : PowerChannel :=
  { reading := 0, fresh := false, openPeriod := false, lastEdge := 0, staleTimer := none }

/-- The scale filter at power-on: undefined, with no sample seen (R14). -/
def scaleFilterFresh : ScaleFilter := .undefined false 0

/-- The tramp filter at power-on: defined, inactive, run 0 (R16). -/
def trampFilterFresh : TrampFilter := { level := false, run := 0 }

/-- The unstored state of the gap channel at power-on, over a station record: W by R27, everything else absent, empty, clear or
inactive (3.8, R85, 5.7, 6.9). The state is UNREFERENCED until start-up ends (R39). -/
def gapChannelFresh (rec : StationRecord) : GapChannel :=
  { state := .unreferenced, queue := [], move := none, context := none, calibration := none, standing := none,
    trimInhibit := false, lastMove := none, lastCal := none,
    w := wearEstimate rec.limits.wMax rec.mCal rec.r, onsets := [], pSave := none, noRestore := false,
    holdTimer := none, cause := none, dryRun := false, sim := none, simTramp := false, testTimer := none,
    openOut := false, closeOut := false }

/-- No stop reason. -/
def noStops : StopSet :=
  { tramp := false, calibration := false, isolated := false, dryRun := false, fault := false,
    notRunning := false, overload := false, levelLost := false, downstream := false }

/-- The feed regulator at power-on (R140): mode STOP, demand rate_min, output 0, every set empty, timers stopped until
start-up ends; the loaded downstream set is in force. -/
def feedRegulatorFresh (t : FeedTuning) : FeedRegulator :=
  { mode := .stop, manualRate := 0, demand := t.rateMin, output := 0, prevError := none, stops := noStops,
    gapMove := false, gapLoadWait := false, powerHigh := false, controlTimer := none, chainTimer := none,
    downstream := t.downstream, tuned := false, wave := none }

/-- The lot accumulator at power-on (R141). -/
def lotAccumulatorFresh : LotAccumulator :=
  { lot := none, nextNumber := 0, leanTimer := none, mass := 0, dropped := 0 }

/-- The schedule at power-on and at RESET STATION (R151). -/
def scheduleFresh : Schedule :=
  { state := .empty, steps := [], index := 0, mode := .auto, cyclic := false, pending := false }

/-- A station at power-on over a station record. -/
def stationFresh (rec : StationRecord) : Station :=
  { record := rec, pos := positionChannelFresh, level := levelChannelFresh, power := powerChannelFresh,
    scale := scaleFilterFresh, tramp := trampFilterFresh, gap := gapChannelFresh rec,
    feed := feedRegulatorFresh rec.feedTuning, lots := lotAccumulatorFresh, sched := scheduleFresh }

/-- The link at power-on (10, table; R171): receiver RESYNC, error count 0; address and rate are latched by start-up. -/
def linkFresh : Link :=
  { addr := 0, fast := false, rx := .resync, frame := [], crc := 0xFFFF#16, lastChar := 0, errors := 0,
    reply := [], takenAt := 0, driving := none, intruder := none }

/-- The panel before its first frame (R182). -/
def panelFresh : Panel := { bits := [], index := none, startedAt := 0 }

/-- The pins before any command has read them. -/
def pinsFresh : Pins :=
  { reset := false, key := false, addr := 0#5, rate := false, scale := Quad.all false, tramp := Quad.all false }

/-- DESIGN CHOICE (assumption log 4): a settings store nothing has been written to; each record fails its check. -/
def storeBlank : Store :=
  { device := spoilRecord DeviceRecord.bytes deviceRecordDefault
    stations := Quad.all (spoilRecord StationRecord.bytes stationRecordDefault) }

end Sys2Proof.Machine
end

