-- ==== Sys2Proof/Machine/State.lean ====
section
/-!
DEFINITION. The state of the device, the reasons a step could stop for, and the state after power-on.
-/

namespace Sys2Proof.Machine

/-- Everything the device holds (INVENTORY.md, "State", lists each field with the rule that names it). -/
structure State where
  /-- the commands waiting, first in, first out -/
  pending : List Instr
  /-- the model's clock, in ticks of 25 ns; it never goes back -/
  clock : Ticks
  /-- the clock at the end of start-up: running time 0 (R16, R19) -/
  epoch : Ticks
  /-- the model's own counter of free choices (assumption log 8) -/
  freeCount : Nat
  phase : Phase
  pins : Pins
  /-- the RAM copy of the device record -/
  device : DeviceRecord
  /-- the start of the filter clock in force, and the time of its last tick (R13) -/
  filterBase : Ticks
  filterLast : Ticks
  stations : Quad Station
  lotQueue : List LotRecord
  /-- the attention source flags, by source number (R178, R191) -/
  raised : BitVec 36
  /-- the attention mask flags (R179) -/
  masks : BitVec 36
  link : Link
  panel : Panel
  store : Store
  writer : Writer
  /-- the stations whose records the STORE sequence still has to write, in order (R185) -/
  storeSeq : List StationId
  /-- the write in progress belongs to a STORE sequence (R185) -/
  inSequence : Bool
  /-- the pending set of automatic writes (R186) -/
  pendingWrites : StationSet
deriving DecidableEq, Repr

/-- The reasons a step could fault for: there is none. Every command of the table has an effect in every state of the
device, and an event that finds nothing to act on changes nothing (assumption log 3). Safe: no step is cut short. -/
inductive Fault where
deriving DecidableEq, Repr

/-- The reasons a step could be refused for. -/
inductive Refusal where
  /-- Answered by the dispatcher alone for a command that has no meaning yet; safe, since nothing is claimed of it. No arm
  answers it: every command has its meaning. -/
  | notModelled (mnemonic : String)
deriving DecidableEq, Repr

/-- The device just after supply is applied, start-up running, over the records the settings store holds (R188 and the
power-on columns of the reset tables). The RAM copies hold the defaults until start-up reads the store. -/
def State.powerOn (clock : Ticks) (freeCount : Nat) (pending : List Instr) (pins : Pins) (phase : Phase)
    (store : Store) : State :=
  { pending := pending, clock := clock, epoch := clock, freeCount := freeCount, phase := phase, pins := pins,
    device := deviceRecordDefault, filterBase := clock, filterLast := clock,
    stations := Quad.all (stationFresh stationRecordDefault), lotQueue := [], raised := 0#36, masks := 0#36,
    link := linkFresh, panel := panelFresh, store := store, writer := .idle, storeSeq := [], inSequence := false,
    pendingWrites := 0#8 }

/-- The device right after power-on: start-up is running, nothing is waiting, the clock stands at 0, and the settings
store is blank (assumption log 4). The command START_UP_END ends start-up. -/
def State.reset : State := State.powerOn 0 0 [] pinsFresh .startUp storeBlank

end Sys2Proof.Machine
end

