-- ==== Sys2Proof/Machine/Ops.lean ====
section
/-!
DEFINITION. The operations every block uses: reaching a station's blocks, the passing of time, the gates of a command
(device running, station present), raising attention sources, and the readings the gap channel takes.
-/

namespace Sys2Proof.Machine

/-! ## Reaching the blocks of a station -/

/-- The state of station `i`. -/
def State.st (s : State) (i : StationId) : Station := s.stations.get i

/-- Change the state of station `i`. -/
def State.modSt (s : State) (i : StationId) (f : Station → Station) : State :=
  { s with stations := s.stations.set i (f (s.st i)) }

/-- Change the gap channel of station `i`. -/
def State.modGap (s : State) (i : StationId) (f : GapChannel → GapChannel) : State :=
  s.modSt i fun st => { st with gap := f st.gap }

/-- Change the RAM copy of the station record of station `i`. -/
def State.modRecord (s : State) (i : StationId) (f : StationRecord → StationRecord) : State :=
  s.modSt i fun st => { st with record := f st.record }

/-- Change the feed regulator of station `i`. -/
def State.modFeed (s : State) (i : StationId) (f : FeedRegulator → FeedRegulator) : State :=
  s.modSt i fun st => { st with feed := f st.feed }

/-- Change the lot accumulator of station `i`. -/
def State.modLots (s : State) (i : StationId) (f : LotAccumulator → LotAccumulator) : State :=
  s.modSt i fun st => { st with lots := f st.lots }

/-- Change the schedule of station `i`. -/
def State.modSched (s : State) (i : StationId) (f : Schedule → Schedule) : State :=
  s.modSt i fun st => { st with sched := f st.sched }

/-- Change the position channel of station `i`. -/
def State.modPos (s : State) (i : StationId) (f : PositionChannel → PositionChannel) : State :=
  s.modSt i fun st => { st with pos := f st.pos }

/-- Change the level channel of station `i`. -/
def State.modLevel (s : State) (i : StationId) (f : LevelChannel → LevelChannel) : State :=
  s.modSt i fun st => { st with level := f st.level }

/-- Change the power channel of station `i`. -/
def State.modPower (s : State) (i : StationId) (f : PowerChannel → PowerChannel) : State :=
  s.modSt i fun st => { st with power := f st.power }

/-! ## Time -/

/-- `dt` ticks of 25 ns pass. -/
def State.elapse (s : State) (dt : Ticks) : State := { s with clock := s.clock + dt }

/-- Time passes to `t`, where `t` is not over yet: an expiry is taken at its timer's time (assumption log 2). -/
def State.reach (s : State) (t : Ticks) : State := { s with clock := max s.clock t }

/-- The time elapsed since the end of start-up; it does not wrap (R18). -/
def State.elapsed (s : State) : Ticks := s.clock - s.epoch

/-- The device running time in ms, modulo 2^32 (R16). -/
def State.runningTime (s : State) : Nat := s.elapsed / 40000 % 4294967296

/-! ## Gates -/

/-- Whether a station is present (R189). -/
def State.present (s : State) (i : StationId) : Bool := setHas s.device.presence i

/-- Work done only while the device runs: not without supply, under the reset input or during start-up (R166, R188). -/
def State.whenRunning (s : State) (f : State → State) : State := if s.phase = .running then f s else s

/-- Work of a present station of a running device: an absent station's channels and blocks do nothing (R18, R39, R139). -/
def State.onStation (s : State) (i : StationId) (f : State → State) : State :=
  if s.phase = .running ∧ s.present i = true then f s else s

/-- Work at the expiry of a timer: nothing where the timer is stopped; otherwise time has passed to its expiry. -/
def State.atExpiry (s : State) (timer : Option Ticks) (f : State → State) : State :=
  match timer with
  | none => s
  | some t => f (s.reach t)

/-! ## Attention sources (R178, R191) -/

/-- The eight sources of a station, in the order of their numbers (R191). -/
inductive StationSource where
  | moveEnd | calEnd | tramp | fault | wearLimit | levelLost | scheduleEnd | storeLost
deriving DecidableEq, Repr

/-- The position of a station source in its station's eight (R191). -/
def StationSource.index : StationSource → Nat
  | .moveEnd => 0 | .calEnd => 1 | .tramp => 2 | .fault => 3
  | .wearLimit => 4 | .levelLost => 5 | .scheduleEnd => 6 | .storeLost => 7

/-- The four device sources (R178). -/
inductive DeviceSource where
  | powerOn | lotWaiting | lotLoss | storeDone
deriving DecidableEq, Repr

/-- The number of a station source: `8 s + i` (R191). -/
def stationSourceNumber (i : StationId) (k : StationSource) : Nat := 8 * i.val + k.index

/-- The number of a device source, 32 to 35 (R191). -/
def deviceSourceNumber : DeviceSource → Nat
  | .powerOn => 32 | .lotWaiting => 33 | .lotLoss => 34 | .storeDone => 35

/-- The set with one source. -/
def sourceBit (n : Nat) : BitVec 36 := 1#36 <<< n

/-- Raise the source of a given number (R178). -/
def State.raiseNumber (s : State) (n : Nat) : State := { s with raised := s.raised ||| sourceBit n }

/-- Raise a source of station `i`. -/
def State.raise (s : State) (i : StationId) (k : StationSource) : State := s.raiseNumber (stationSourceNumber i k)

/-- Raise a device source. -/
def State.raiseDevice (s : State) (k : DeviceSource) : State := s.raiseNumber (deviceSourceNumber k)

/-! ## Readings (R4, R7, R23) -/

/-- The latest valid position the position channel offers (R4). -/
def Station.latestValid (st : Station) : Option Nat := if st.pos.seen then some st.pos.p else none

/-- The position in use (R23): the simulated position while it is held (R158), else the latest valid position. -/
def Station.posInUse (st : Station) : Option Nat :=
  match st.gap.sim with
  | some p => some p
  | none => st.latestValid

/-- The level reading: absent while the level is lost or not yet measured (R7). -/
def Station.levelReading (st : Station) : Option Nat := if st.level.lost then none else st.level.last

/-! ## Folding an operation over stations -/

/-- Apply an operation for each station of a list, in the list's order. -/
def State.eachOf (s : State) (is : List StationId) (f : State → StationId → State) : State := is.foldl f s

end Sys2Proof.Machine
end

