-- ==== Sys2Proof/Machine/Flags.lean ====
section
/-!
DEFINITION. What is computed from the held state and not held itself: G, E and BEYOND_ZERO (R24, R30), the wear-capped condition
(R28), the unmasked raised set and ATTN (R179), the lamp bits (R183), and the levels of the output pins.
-/

namespace Sys2Proof.Machine

/-- G: absent without a valid zero or a position in use (R24). -/
def Station.geometric (st : Station) : Option Nat :=
  if st.record.zValid then st.posInUse.map fun p => geometricCss st.record.z st.record.gapTuning.k p else none

/-- BEYOND_ZERO of an evaluation (R24). -/
def Station.beyondZero (st : Station) : Bool :=
  match st.record.zValid, st.posInUse with
  | true, some p => decide (st.record.z < p)
  | _, _ => false

/-- E = G + W (R30). -/
def Station.estimated (st : Station) : Option Nat := st.geometric.map fun g => g + st.gap.w

/-- The wear-capped condition: W = Wmax (R28). -/
def Station.capped (st : Station) : Bool := st.gap.w == st.record.limits.wMax

/-- The unmasked raised set (R179). -/
def State.unmasked (s : State) : BitVec 36 := s.raised &&& ~~~s.masks

/-- ATTN: active exactly while the unmasked raised set is non-empty (R179), and inactive outside running. -/
def State.attn (s : State) : Bool := decide (s.phase = .running) && s.unmasked != 0#36

/-- One of the eight sources of a station is in the unmasked raised set (R183). -/
def State.stationPending (s : State) (i : StationId) : Bool :=
  (s.unmasked >>> (8 * i.val)) &&& 0xFF#36 != 0#36

/-- The six lamp bits of a station at a frame start (R183); an absent station's are 0 (R182). -/
def State.lampBits (s : State) (i : StationId) : List Bool :=
  let st := s.st i
  if s.present i then
    match s.device.panelSet with
    | .normal =>
      [decide (0 < st.feed.output), st.gap.state == .moving,
       st.gap.state == .relieved || st.gap.state == .restoring, st.gap.state == .faulted,
       st.gap.state == .calibrating, st.capped]
    | .attention =>
      [decide (0 < st.feed.output), st.gap.state == .moving, s.stationPending i, st.gap.state == .faulted,
       s.unmasked != 0#36, st.level.lost]
  else List.replicate 6 false

/-- The 24 bits of a frame, station 0 first (R182). -/
def State.frameBits (s : State) : List Bool :=
  s.lampBits 0 ++ s.lampBits 1 ++ s.lampBits 2 ++ s.lampBits 3

/-- A pulse of `len` ticks begun at a recorded time is still active. -/
def pulseActive (clock : Ticks) (since : Option Ticks) (len : Ticks) : Bool :=
  match since with
  | some t => decide (clock < t + len)
  | none => false

/-- The output pins of one station. -/
structure StationPins where
  posOut : Bool
  echoOut : Bool
  openValve : Bool
  closeValve : Bool
  feedOut : Bool
deriving DecidableEq, Repr

/-- The output pins of station `i`: POS OUT for 2 µs (R1), ECHO OUT for 100 µs (R5), the valves (R63) and FEED OUT, active
during each high half (R138). -/
def State.stationPins (s : State) (i : StationId) : StationPins :=
  let st := s.st i
  { posOut := pulseActive s.clock st.pos.pulsedAt (usTicks 2)
    echoOut := pulseActive s.clock st.level.pulsedAt (usTicks 100)
    openValve := st.gap.openOut
    closeValve := st.gap.closeOut
    feedOut := match st.feed.wave with
      | some w => w.high
      | none => false }

/-- PANEL DATA: the bit in progress (R182). -/
def Panel.data (p : Panel) : Bool :=
  match p.index with
  | some k => p.bits.getD k false
  | none => false

/-- PANEL FRAME: active during the first bit of a frame (R182). -/
def Panel.frameLine (p : Panel) : Bool := p.index == some 0

/-- PANEL CLK: active for the last 50 µs of each bit (R182). -/
def Panel.clockLine (p : Panel) (now : Ticks) : Bool :=
  match p.index with
  | some k => decide (p.startedAt + usTicks (100 * k + 50) ≤ now)
  | none => false

/-- The driver of LINK A and LINK B is active only while a reply is sent (R166, R173). -/
def Link.driver (l : Link) : Bool := l.driving.isSome

/-- The latched bit rate in bit/s (R166). -/
def Link.bitRate (l : Link) : Nat := if l.fast then 115200 else 57600

/-- A bit of a character on the line (R166). -/
inductive LineBit where
  | start
  | data (value : Bool)
  | stop
deriving DecidableEq, Repr

/-- The ten bits of a character, in the order of the line: a start bit, the eight data bits, least significant first, and a stop bit, with
no parity bit (R166). -/
def charBits (c : Byte) : List LineBit :=
  .start :: ((List.range 8).map fun k => .data (c.getLsbD k)) ++ [.stop]

/-- The bit that the device sends on LINK A and LINK B: the reply's characters follow one another without a gap from the start of the
reply, each bit lasting one bit time (R166, R173); none while the driver is released, and none after the last stop bit. -/
def Link.lineBit (l : Link) (now : Ticks) : Option LineBit :=
  match l.driving with
  | none => none
  | some t => (l.reply.flatMap charBits)[(now - t) * l.bitRate / 40000000]?

end Sys2Proof.Machine
end

