-- ==== Sys2Proof/Machine/FeedOps.lean ====
section
/-!
DEFINITION. What the feed regulator does at the events of other blocks: the output rate and its waveform (R119, R137, R138), the reason
sets and the restart (R120, R121), and the chain coupling (R132, R133).

A command changes the gap state first; the reasons that belong to it are then brought into agreement once, at the end of the event,
which is when R121 reads the stop set (assumption log 5).
-/

namespace Sys2Proof.Machine

/-- A waveform that begins its high half now (R138). -/
def waveBegin (now : Ticks) (period : Nat) : Wave :=
  { high := true, period := period, pending := none, halfEnds := now + usTicks (period / 2) }

/-- The output rate changes to `r` and is handed to the waveform (R119, R138). A new period equal to the one in progress is held as the pending
period too: the model's choice between two sentences of R138 (assumption log 36). -/
def setOutput (now : Ticks) (t : FeedTuning) (f : FeedRegulator) (r : Nat) : FeedRegulator :=
  if r = f.output then f
  else if r = 0 then { f with output := 0, wave := none }
  else
    match f.wave with
    | some w => { f with output := r, wave := some { w with pending := some (feederPeriod t r) } }
    | none => { f with output := r, wave := some (waveBegin now (feederPeriod t r)) }

/-- The stop set holds a reason. -/
def StopSet.any (x : StopSet) : Bool :=
  x.tramp || x.calibration || x.isolated || x.dryRun || x.fault || x.notRunning || x.overload || x.levelLost ||
    x.downstream

/-- The restart of R121: demand and output rate at rate_min, previous level error absent. -/
def restartFeed (now : Ticks) (t : FeedTuning) (f : FeedRegulator) : FeedRegulator :=
  { setOutput now t f t.rateMin with demand := t.rateMin, prevError := none }

/-- The stop of R121: output rate 0 at once and demand at rate_min. -/
def stopFeed (now : Ticks) (t : FeedTuning) (f : FeedRegulator) : FeedRegulator :=
  { setOutput now t f 0 with demand := t.rateMin }

/-- The stop set becomes `x` (R121): from empty to non-empty the feeder stops; from non-empty to empty it restarts, in MANUAL
and AUTO. -/
def setStops (now : Ticks) (t : FeedTuning) (f : FeedRegulator) (x : StopSet) : FeedRegulator :=
  let g := { f with stops := x }
  if f.stops.any = false ∧ x.any = true then stopFeed now t g
  else if f.stops.any = true ∧ x.any = false ∧ f.mode ≠ .stop then restartFeed now t g
  else g

/-- The stop reasons that follow the gap state and dry run, put beside the regulator's own (R120, column "Present while"). -/
def gapStops (g : GapChannel) (x : StopSet) : StopSet :=
  { x with
    tramp := g.state == .relieved || g.state == .restoring
    calibration := g.state == .calibrating
    isolated := g.state == .isolated
    dryRun := g.dryRun
    fault := g.state == .faulted }

/-- The gap channel is MOVING in SETTLE or PULSE: GAP_MOVE stands in the hold set (R62). -/
def GapChannel.holdsMove (g : GapChannel) : Bool :=
  g.state == .moving &&
    match g.move with
    | some m => match m.phase with
      | .settle _ => true
      | .pulse _ _ => true
      | _ => false
    | none => false

/-- The gap channel is MOVING in WAIT_LOAD: GAP_LOAD_WAIT stands in the reduce set (R62). -/
def GapChannel.waitsLoad (g : GapChannel) : Bool :=
  g.state == .moving &&
    match g.move with
    | some m => match m.phase with
      | .waitLoad _ _ => true
      | _ => false
    | none => false

/-- The regulator of a station with the reasons of its gap channel brought into agreement (R62, R95, R120, R121). -/
def Station.syncReasons (now : Ticks) (st : Station) : Station :=
  let f := setStops now st.record.feedTuning st.feed (gapStops st.gap st.feed.stops)
  { st with feed := { f with gapMove := st.gap.holdsMove, gapLoadWait := st.gap.waitsLoad } }

/-- The output rate of a station as another regulator sees it: an absent station counts as 0 (R132). -/
def State.outputSeen (s : State) (i : StationId) : Nat := if s.present i then (s.st i).feed.output else 0

/-- The downstream condition of R132 over the set in force. -/
def State.downstreamIdle (s : State) (i : StationId) : Bool :=
  let set := (s.st i).feed.downstream
  set != 0#8 && stationsInOrder.all fun j => !setHas set j || s.outputSeen j == 0

/-- The regulator of station `i` evaluates its downstream condition (R132, R133): where it holds, the chain timer starts
unless it runs or DOWNSTREAM is posted; where it does not, the timer stops and DOWNSTREAM is removed. -/
def State.chainEval (s : State) (i : StationId) : State :=
  if s.present i then
    if s.downstreamIdle i then
      s.modSt i fun st =>
        if st.feed.stops.downstream || st.feed.chainTimer.isSome then st
        else
          let timer := some (s.clock + secTicks st.record.feedTuning.chainDelay)
          { st with feed := { st.feed with chainTimer := timer } }
    else
      s.modSt i fun st =>
        let x := { st.feed.stops with downstream := false }
        { st with feed := setStops s.clock st.record.feedTuning { st.feed with chainTimer := none } x }
  else s

/-- Every regulator evaluates its downstream condition once. -/
def State.chainSweep (s : State) : State := stationsInOrder.foldl State.chainEval s

/-- Output events travel up the chain until they change nothing more: a removal of DOWNSTREAM may restart a feeder, whose
output event reaches the next station up. Four stations need at most four sweeps (R133, R135). -/
def State.chainSettle (s : State) : State := s.chainSweep.chainSweep.chainSweep.chainSweep

/-- The end of an event at station `i`: its reasons agree with its gap channel, and its output rate has been handed up the
chain (R119, R121, R132). -/
def State.settleFeed (s : State) (i : StationId) : State :=
  (s.modSt i (Station.syncReasons s.clock)).chainSettle

end Sys2Proof.Machine
end

