-- ==== Sys2Proof/Machine/LotOps.lean ====
section
/-!
DEFINITION. The lot accumulator and the lot queue as other blocks reach them (R141 to R149): closing a lot, its record, the
queue of sixteen, and the CUT of a SETTING activation.
-/

namespace Sys2Proof.Machine

/-- The record of a lot at its close (R146, R147). -/
def lotRecordOf (i : StationId) (l : OpenLot) (reason : CloseReason) (w : Nat) : LotRecord :=
  { station := i, number := l.number, mass := l.mass, reason := reason, target := l.target, step := l.step,
    meanPower := meanPower l.powerSum l.freshCount l.intervals, w := w }

/-- A closed lot's record joins the lot queue, or is dropped where 16 stand (R149). -/
def State.queueLot (s : State) (r : LotRecord) : State :=
  if s.lotQueue.length < 16 then
    let s' := { s with lotQueue := s.lotQueue ++ [r] }
    if s.lotQueue.isEmpty then s'.raiseDevice .lotWaiting else s'
  else
    (s.modLots r.station fun x => { x with dropped := min 65535 (x.dropped + 1) }).raiseDevice .lotLoss

/-- The open lot of station `i`, where there is one, closes: the lean timer stops, the record is formed, the open lot is
discarded, and the record is handed to the lot queue (R146 steps 1 to 4). -/
def State.closeLot (s : State) (i : StationId) (reason : CloseReason) : State :=
  match (s.st i).lots.lot with
  | none => s
  | some l =>
    (s.modLots i fun x => { x with lot := none, leanTimer := none }).queueLot
      (lotRecordOf i l reason (s.st i).gap.w)

/-- A SETTING activation hands its effective target: an open lot whose target is absent or differs closes CUT (R145). -/
def State.handTarget (s : State) (i : StationId) (eff : Nat) : State :=
  match (s.st i).lots.lot with
  | none => s
  | some l => if l.target = some eff then s else s.closeLot i .cut

/-- The target of a lot that opens now (R142). -/
def lotTarget (g : GapChannel) : Option Nat :=
  match g.move, g.context with
  | some m, _ =>
    if m.kind = .setting ∨ m.kind = .trim then m.eff
    else match g.context with
      | some c => c.move.eff
      | none => g.standing
  | none, some c => c.move.eff
  | none, none => g.standing

/-- The lot that opens now: number, target, and the step and size of a running schedule or the default size (R142). -/
def openingLot (st : Station) (defaultSize : Nat) : OpenLot :=
  let step := if st.sched.state = .running then st.sched.steps[st.sched.index]? else none
  { number := st.lots.nextNumber
    size := match step with
      | some p => p.lotSize
      | none => defaultSize
    target := lotTarget st.gap
    step := if st.sched.state = .running then some (st.sched.index + 1) else none
    mass := 0, powerSum := 0, freshCount := 0, intervals := 0 }

/-- The mass counter after a delivery of `m` (R148). Beyond its range of 0 to 281,474,976,710,655 kg the spec gives no value: a free
value within the range stands there (assumption log 17). -/
def massAfter (mass m : Nat) : Nat :=
  if mass + m ≤ 281474976710655 then mass + m else Config.massBeyond mass m % 281474976710656

/-- A mean-power sample: it counts in the open lot, or is discarded (R147). -/
def lotSample (reading : Nat) (fresh : Bool) (x : LotAccumulator) : LotAccumulator :=
  match x.lot with
  | none => x
  | some l =>
    let l' := { l with
      intervals := l.intervals + 1
      freshCount := if fresh then l.freshCount + 1 else l.freshCount
      powerSum := if fresh then l.powerSum + reading else l.powerSum }
    { x with lot := some l' }

end Sys2Proof.Machine
end

