-- ==== Sys2Proof/Machine/StoreOps.lean ====
section
/-!
DEFINITION. The settings store writer (R184 to R187): beginning a write, the automatic request, and the cut of a write.
-/

namespace Sys2Proof.Machine

/-- The device record's write begins, with the RAM values of this moment (R184). -/
def State.beginDeviceWrite (s : State) : State := { s with writer := .device s.device s.clock }

/-- A station record's write begins, with the RAM values of this moment (R184). -/
def State.beginStationWrite (s : State) (i : StationId) : State :=
  { s with writer := .station i (s.st i).record s.clock }

/-- The lowest-numbered station of the pending set (R186). -/
def lowestPending (b : StationSet) : Option StationId := stationsInOrder.find? fun i => setHas b i

/-- The writer serves the pending set: the lowest-numbered station leaves it as its write begins; on an empty set the writer
returns to IDLE (R185, R186). -/
def State.servePending (s : State) : State :=
  match lowestPending s.pendingWrites with
  | some i => { (s.beginStationWrite i) with pendingWrites := setErase s.pendingWrites i, inSequence := false }
  | none => { s with writer := .idle, inSequence := false }

/-- An automatic write of a station record is requested (R186). -/
def State.requestWrite (s : State) (i : StationId) : State :=
  match s.writer with
  | .idle => { (s.beginStationWrite i) with inSequence := false }
  | _ =>
    if s.storeSeq.contains i then s
    else { s with pendingWrites := setInsert s.pendingWrites i }

/-- A write in progress is cut: its record is left failing its check, the others as they are (R187). -/
def cutWrite (w : Writer) (x : Store) : Store :=
  match w with
  | .idle => x
  | .device copy _ => { x with device := spoilRecord DeviceRecord.bytes copy }
  | .station i copy _ => { x with stations := x.stations.set i (spoilRecord StationRecord.bytes copy) }

/-- A completed write: the record holds the values copied at its beginning, and their check value (R184). -/
def finishWrite (w : Writer) (x : Store) : Store :=
  match w with
  | .idle => x
  | .device copy _ => { x with device := sealRecord DeviceRecord.bytes copy }
  | .station i copy _ => { x with stations := x.stations.set i (sealRecord StationRecord.bytes copy) }

end Sys2Proof.Machine
end

