-- ==== Sys2Proof/Machine/GapOps.lean ====
section
/-!
DEFINITION. The shared operations of the gap channel (chapters 3 and 4) and of the schedule (8.5): entries, activation, the trim
check, the entry to IDLE, the pulse and its cut, the end of a move, and the advance of a schedule.
-/

namespace Sys2Proof.Machine

/-! ## Phases and pulses (chapter 4) -/

/-- The settle phase begun now (R64). -/
def settleFrom (now : Ticks) (g : GapTuning) : MovePhase := .settle (now + msTicks g.settle)

/-- Whole seconds of a visit to WAIT_LOAD, staying at 600 (R72). -/
def loadWaitSeconds (now since : Ticks) : Nat := min 600 ((now - since) / 40000000)

/-- The simulated position moved by a pulse of a direction that ran `t` ms, clamped to [0, contact count] (R159). -/
def simMoved (g : GapTuning) (d : Option Dir) (t p : Nat) : Nat :=
  match d with
  | some .opening => clampTo 0 g.simContact (p - simTravel g t)
  | _ => clampTo 0 g.simContact (p + simTravel g t)

/-- With dry run on, the simulated position takes a pulse that ran `t` ms (R70, R71, R159). -/
def GapChannel.simPulse (gt : GapTuning) (d : Option Dir) (t : Nat) (g : GapChannel) : GapChannel :=
  if g.dryRun then { g with sim := g.sim.map (simMoved gt d t) } else g

/-- Whole ms a pulse has run; it runs no longer than its width (R71; assumption log 13). -/
def ranFor (now startedAt width : Nat) : Nat := min width ((now - startedAt) / 40000)

/-- The move in flight leaves its phase: a pulse is cut (the valve goes inactive, and the simulated position takes its running
time), the phase's timer stops, and WAIT_LOAD leaves its elapsed figure (R71, R72, chapter 4 introduction). -/
def leavePhase (now : Ticks) (st : Station) : Station :=
  match st.gap.move with
  | none => st
  | some m =>
    match m.phase with
    | .parked => st
    | .settle _ => { st with gap := { st.gap with move := some { m with phase := .parked } } }
    | .pulse t w =>
      let g := st.gap.simPulse st.record.gapTuning m.dir (ranFor now t w)
      { st with gap := { g with openOut := false, closeOut := false, move := some { m with phase := .parked } } }
    | .waitLoad t _ =>
      let m' := { m with phase := .parked, loadWaited := loadWaitSeconds now t }
      { st with gap := { st.gap with move := some m' } }

/-- The move in flight of station `i` leaves its phase. -/
def State.leavePhase (s : State) (i : StationId) : State := s.modSt i (Machine.leavePhase s.clock)

/-- The move in flight changes. -/
def State.modMove (s : State) (i : StationId) (f : Move → Move) : State :=
  s.modGap i fun g => { g with move := g.move.map f }

/-! ## Entries, activation and the schedule (3.2, 8.5) -/

/-- A setting entry formed now (R42): its effective target uses the limits of this moment. -/
def formEntry (lim : Limits) (requested : Nat) (origin : Origin) (tag step : Option Nat) : SettingEntry :=
  let eff := effectiveTarget lim requested
  { requested := requested, effective := eff, clamped := eff != requested, origin := origin, tag := tag, step := step }

/-- The move record at the activation of an entry (R44, R45, R75). -/
def activatedMove (st : Station) (now : Ticks) (e : SettingEntry) : Move :=
  let f := fixPoint st.record.limits st.record.gapTuning.k st.record.z st.gap.w e.requested
  { kind := if e.origin = .trim then .trim else .setting
    origin := some e.origin, tag := e.tag, eff := some f.eff, pt := some f.pt, strokeClamped := f.strokeClamped,
    phase := settleFrom now st.record.gapTuning, dir := none, pBefore := none, pulses := 0, noProgress := 0,
    pendingSuspend := false, dwell := none, loadWaited := 0 }

/-- The head entry becomes the move in flight, and a SETTING move hands its target to the lot accumulator (R44). The space event
is `spaceEvent`'s. -/
def State.activateHead (s : State) (i : StationId) : State :=
  let st := s.st i
  match st.gap.queue with
  | [] => s
  | e :: rest =>
    let m := activatedMove st s.clock e
    let s' := s.modGap i fun g => { g with queue := rest, move := some m, state := .moving }
    if m.kind = .setting then s'.handTarget i (m.eff.getD 0) else s'

/-- An entry joins the queue at its tail; in IDLE it is activated within the same event (R43). -/
def State.joinQueue (s : State) (i : StationId) (e : SettingEntry) : State :=
  let s' := s.modGap i fun g => { g with queue := g.queue ++ [e] }
  if (s.st i).gap.state = .idle then s'.activateHead i else s'

/-- The schedule's entry for the step at its index (R42, R154). -/
def scheduleEntry (st : Station) : SettingEntry :=
  let target := match st.sched.steps[st.sched.index]? with
    | some p => p.target
    | none => 0
  formEntry st.record.limits target .schedule none (some (st.sched.index + 1))

/-- The space event of R43: a schedule with a pending step enqueues it and becomes RUNNING (R154). -/
def State.spaceEvent (s : State) (i : StationId) : State :=
  let st := s.st i
  if st.sched.pending then
    (s.modSched i fun c => { c with pending := false, state := .running }).joinQueue i (scheduleEntry st)
  else s

/-- Activation with the space event its leaving entry hands to the schedule (R43, R44). -/
def State.activate (s : State) (i : StationId) : State := (s.activateHead i).spaceEvent i

/-- An entry joins the queue; where its activation takes it out again, the space event follows (R43). -/
def State.enqueue (s : State) (i : StationId) (e : SettingEntry) : State :=
  let s' := s.joinQueue i e
  if (s.st i).gap.state = .idle then s'.spaceEvent i else s'

/-- The schedule enqueues the step at its index, or goes HELD where 4 entries stand (R154). -/
def State.scheduleEnqueue (s : State) (i : StationId) : State :=
  let st := s.st i
  if 4 ≤ st.gap.queue.length then s.modSched i fun c => { c with state := .held, pending := true }
  else s.enqueue i (scheduleEntry st)

/-- Whether enqueueing the step at the index forms a clamped entry (R152, R153: the reply is CLAMPED). -/
def Station.stepClamped (st : Station) : Bool :=
  decide (st.gap.queue.length < 4) && (scheduleEntry st).clamped

/-- The schedule advances by one step, wraps, or ends (R153). -/
def State.scheduleAdvance (s : State) (i : StationId) : State :=
  let c := (s.st i).sched
  if c.index + 1 < c.steps.length then
    (s.modSched i fun c => { c with index := c.index + 1 }).scheduleEnqueue i
  else if c.cyclic then (s.modSched i fun c => { c with index := 0 }).scheduleEnqueue i
  else (s.modSched i fun c => { c with state := .ended }).raise i .scheduleEnd

/-- A running, held or loaded schedule goes LOADED at index 0 with nothing pending; EMPTY and ENDED stay (R155). -/
def scheduleStopped (c : Schedule) : Schedule :=
  if c.state = .running ∨ c.state = .held ∨ c.state = .loaded then
    { c with state := .loaded, index := 0, pending := false }
  else c

/-- A running schedule of station `i` is stopped by an event (R155). -/
def State.stopSchedule (s : State) (i : StationId) : State := s.modSched i scheduleStopped

/-- A FULL close is handed to the schedule: it advances where it is RUNNING in AUTO (R146, R153), whatever step the lot carries: a lot opened
before the START counts too, the model's choice (assumption log 37). -/
def State.fullClose (s : State) (i : StationId) : State :=
  let c := (s.st i).sched
  if c.state = .running ∧ c.mode = .auto then s.scheduleAdvance i else s

/-! ## IDLE, UNREFERENCED and trim (R40, R47) -/

/-- The trim check passes (R47). -/
def Station.trimDue (st : Station) : Bool :=
  match st.gap.standing, st.estimated with
  | some t, some e =>
    st.record.gapTuning.trimThreshold != 0 && !st.gap.trimInhibit && st.gap.queue.isEmpty &&
      decide (t + st.record.gapTuning.trimThreshold ≤ e)
  | _, _ => false

/-- The trim check in IDLE: where it passes, a TRIM entry for the standing target is enqueued and activated (R47). -/
def State.trimCheck (s : State) (i : StationId) : State :=
  let st := s.st i
  if st.trimDue then
    s.enqueue i (formEntry st.record.limits (st.gap.standing.getD 0) .trim none none)
  else s

/-- The station goes to IDLE or UNREFERENCED by its zero reference; an entry to IDLE activates the oldest entry, or runs the
trim check on an empty queue (R40). -/
def State.toRest (s : State) (i : StationId) : State :=
  if (s.st i).record.zValid then
    let s' := s.modGap i fun g => { g with state := .idle }
    if (s.st i).gap.queue.isEmpty then s'.trimCheck i else s'.activate i
  else s.modGap i fun g => { g with state := .unreferenced }

/-! ## The end of a move (R80 to R82) -/

/-- The trim-inhibit flag after the end of a move (R48). HALT clears it, so a HALTED move does not set it (assumption
log 11). -/
def trimInhibitAfter (old : Bool) (m : Move) (r : MoveResult) : Bool :=
  if r = .complete then m.strokeClamped
  else if r = .halted then old
  else if m.kind = .trim then true
  else old

/-- The last move result of a move that ends now (R82). -/
def lastMoveOf (m : Move) (r : MoveResult) (pos : Option Nat) : LastMove :=
  { result := r, kind := m.kind, origin := m.origin, tag := m.tag, eff := m.eff, finalPos := pos, pulses := m.pulses,
    strokeClamped := m.strokeClamped }

/-- The SETTING or TRIM move in flight ends with a result: its phase is left, the last move result is written, the standing
target and the trim-inhibit flag follow, MOVE END is raised and the record is dropped (R80). The state after is the caller's. -/
def State.endMove (s : State) (i : StationId) (r : MoveResult) : State :=
  let s1 := s.leavePhase i
  match (s1.st i).gap.move with
  | none => s1
  | some m =>
    (s1.modSt i fun st =>
      let g := st.gap
      { st with gap := { g with
          lastMove := some (lastMoveOf m r st.posInUse)
          standing := if r = .complete then m.eff else g.standing
          trimInhibit := trimInhibitAfter g.trimInhibit m r
          move := none } }).raise i .moveEnd

/-- The context, where one is present, is dropped with a result: its move's last result is written and MOVE END is raised
(R81). -/
def State.dropContext (s : State) (i : StationId) (r : MoveResult) : State :=
  match (s.st i).gap.context with
  | none => s
  | some c =>
    (s.modSt i fun st =>
      let g := st.gap
      { st with gap := { g with
          lastMove := some (lastMoveOf c.move r st.posInUse)
          trimInhibit := trimInhibitAfter g.trimInhibit c.move r
          context := none } }).raise i .moveEnd

/-- The queue is emptied (R43). -/
def State.emptyQueue (s : State) (i : StationId) : State := s.modGap i fun g => { g with queue := [] }

/-- The queue of station `i` held entries, so that emptying it hands a space event (R43). -/
def State.hasEntries (s : State) (i : StationId) : Bool := !(s.st i).gap.queue.isEmpty

/-- The space event of an emptying, handed after every other change of its request or event (R43). -/
def State.spaceIf (s : State) (had : Bool) (i : StationId) : State := if had then s.spaceEvent i else s

/-! ## The end of a calibration (R112) -/

/-- The last calibration result written at an end (R112). -/
def lastCalOf (st : Station) (c : Calibration) (r : CalResult) : LastCal :=
  { result := r, pStart := c.pStart, zNew := c.zNew, finalPos := st.posInUse, seekPulses := c.seekPulses,
    backoffPulses := if c.phase = .backoff then st.gap.move.map Move.pulses else none
    calNumber := st.record.calNumber }

/-- The calibration, where one runs, ends with a result: its pulse is cut, its timers stop, the last calibration result is
written, its records are dropped and CAL END is raised (R112 steps 1 to 5). The state after is the caller's. -/
def State.endCalibration (s : State) (i : StationId) (r : CalResult) : State :=
  let s1 := s.leavePhase i
  match (s1.st i).gap.calibration with
  | none => s1
  | some c =>
    (s1.modSt i fun st =>
      let g := st.gap
      { st with gap := { g with lastCal := some (lastCalOf st c r), move := none, calibration := none } }).raise i
      .calEnd

/-! ## The end of a relief, and FAULTED -/

/-- P_save, the no-restore mark and the hold timer are discarded, as at every departure from RELIEVED and RESTORING (R89, R99). -/
def State.discardRelief (s : State) (i : StationId) : State :=
  s.modGap i fun g => { g with pSave := none, noRestore := false, holdTimer := none }

/-- What the gap channel was doing ends because the station goes FAULTED: a move or a context with result FAULTED, a restore
without a result, a calibration CAL_ABORTED (R88, R102, R164 steps 1 and 2). -/
def State.endWorkFaulted (s : State) (i : StationId) : State :=
  match (s.st i).gap.state with
  | .moving => s.endMove i .faulted
  | .suspended => s.endMove i .faulted
  | .relieved => s.dropContext i .faulted
  | .restoring => ((s.leavePhase i).modGap i fun g => { g with move := none }).dropContext i .faulted
  | .calibrating => s.endCalibration i .aborted
  | _ => s

/-- The station goes FAULTED with a cause (R88, R102, R164): its work ends, the relief is discarded, the schedule is stopped and
then the queue emptied, the cause is recorded and FAULT is raised. -/
def State.enterFaulted (s : State) (i : StationId) (cause : FaultCause) : State :=
  let s1 := ((s.endWorkFaulted i).discardRelief i).stopSchedule i
  ((s1.emptyQueue i).modGap i fun g => { g with state := .faulted, cause := some cause }).raise i .fault

/-! ## Wear (R27, R28) -/

/-- W is recomputed from M_cal, R and Wmax, and WEAR LIMIT is raised where the capped condition comes to hold (R27, R28). -/
def State.recomputeWear (s : State) (i : StationId) (wasCapped : Bool) : State :=
  let s1 := s.modSt i fun st =>
    { st with gap := { st.gap with w := wearEstimate st.record.limits.wMax st.record.mCal st.record.r } }
  if !wasCapped && (s1.st i).capped then s1.raise i .wearLimit else s1

end Sys2Proof.Machine
end

