-- ==== Sys2Proof/Machine/Loop.lean ====
section
/-!
DEFINITION. The valve pulse loop (chapter 4): the decisions at a settle expiry and at a WAIT_LOAD exit, the pulse, the end of a relief
with its continuation (R101), and the meanings of the loop's timer rows.
-/

namespace Sys2Proof.Machine

/-! ## Timers of the move record -/

/-- The settle timer of a SETTING, TRIM, RESTORE or BACKOFF move (R64). -/
def Move.settleTimer (m : Move) : Option Ticks :=
  match m.phase with
  | .settle t => if m.kind = .seek then none else some t
  | _ => none

/-- The settle timer of a SEEK move (R106). -/
def Move.seekTimer (m : Move) : Option Ticks :=
  match m.phase with
  | .settle t => if m.kind = .seek then some t else none
  | _ => none

/-- The pulse timer (R69). -/
def Move.pulseTimer (m : Move) : Option Ticks :=
  match m.phase with
  | .pulse t w => some (t + msTicks w)
  | _ => none

/-- The load-wait timer (R72). -/
def Move.loadTimer (m : Move) : Option Ticks :=
  match m.phase with
  | .waitLoad _ t => t
  | _ => none

/-- A timer of the move record of station `i`, where a move is present. -/
def State.moveTimer (s : State) (i : StationId) (timer : Move → Option Ticks) : Option Ticks :=
  (s.st i).gap.move.bind timer

/-! ## The end of a relief (R101) -/

/-- The move a context becomes at its continuation, a target fix point (R75, R101). -/
def continuedMove (st : Station) (now : Ticks) (c : Context) : Move :=
  let f := fixPoint st.record.limits st.record.gapTuning.k st.record.z st.gap.w (c.move.eff.getD 0)
  { c.move with
    eff := some f.eff, pt := some f.pt, strokeClamped := f.strokeClamped, dir := none, pBefore := none,
    phase := if c.suspended then .parked else settleFrom now st.record.gapTuning
    pendingSuspend := false, dwell := none, loadWaited := 0 }

/-- A restore that ends COMPLETE, and a hold expiry that forms no restore, end the relief: the context's move continues, or the
station goes to IDLE or UNREFERENCED (R101). -/
def State.endRelief (s : State) (i : StationId) : State :=
  let s1 := ((s.leavePhase i).modGap i fun g => { g with move := none }).discardRelief i
  match (s1.st i).gap.context with
  | some c =>
    s1.modSt i fun st =>
      { st with gap := { st.gap with
          move := some (continuedMove st s.clock c), context := none
          state := if c.suspended then .suspended else .moving } }
  | none => s1.toRest i

/-! ## Decisions (R65 to R73) -/

/-- A move of the loop ends with a result, handed to its owner: a SETTING or TRIM move ends by R80, a RESTORE by R101 or R102, a
BACKOFF by R112 (R83). -/
def State.finishLoop (s : State) (i : StationId) (r : MoveResult) : State :=
  match (s.st i).gap.move.map Move.kind with
  | some .setting => (s.endMove i r).toRest i
  | some .trim => (s.endMove i r).toRest i
  | some .restore => if r = .complete then s.endRelief i else s.enterFaulted i .restoreStalled
  | some .backoff => (s.endCalibration i (if r = .complete then .done else .backoffFailed)).toRest i
  | _ => s

/-- CLOSE where P_t > P, OPEN otherwise (R68). -/
def directionTo (pt p : Nat) : Dir := if p < pt then .closing else .opening

/-- The valve output of the move's direction is driven, where dry run is off (R63). -/
def GapChannel.drive (g : GapChannel) (d : Option Dir) : GapChannel :=
  if g.dryRun then g
  else { g with openOut := d == some .opening, closeOut := d == some .closing }

/-- Entry to PULSE with the position of the decision that chose it and a width (R69, R106). -/
def beginPulse (now : Ticks) (p width : Nat) (st : Station) : Station :=
  match st.gap.move with
  | none => st
  | some m =>
    let m' := { m with phase := .pulse now width, pBefore := some p, pulses := m.pulses + 1 }
    { st with gap := { (st.gap.drive m.dir) with move := some m' } }

/-- Entry to PULSE of the loop, sized by R37 (R69). -/
def State.enterPulse (s : State) (i : StationId) (p : Nat) : State :=
  s.modSt i fun st =>
    beginPulse s.clock p (pulseWidth st.record.gapTuning (((st.gap.move.bind Move.pt)).getD 0) p) st

/-- Entry to WAIT_LOAD (R72): the load-wait timer runs for a SETTING or TRIM move alone. -/
def State.enterWaitLoad (s : State) (i : StationId) : State :=
  s.modSt i fun st =>
    let timer := s.clock + secTicks st.record.gapTuning.loadWait
    { st with gap := { st.gap with move := st.gap.move.map fun m =>
        { m with
          phase := .waitLoad s.clock (if m.kind = .restore then none else some timer)
          loadWaited := 0 } } }

/-- The progress of the last pulse in the move's direction, in counts (R66). -/
def progress (d : Option Dir) (pBefore p : Nat) : Int :=
  match d with
  | some .opening => (pBefore : Int) - p
  | _ => (p : Int) - pBefore

/-- The no-progress run after a settle expiry (R66): left as it is where P_before is absent. -/
def runAfter (m : Move) (p : Nat) : Nat :=
  match m.pBefore with
  | none => m.noProgress
  | some b => if progress m.dir b p < 1 then m.noProgress + 1 else 0

/-- The stall test of R66: the increment brings the run to 3. -/
def stalls (m : Move) (p : Nat) : Bool := m.pBefore.isSome && runAfter m p == 3

/-- The move waits for load rather than close now (R68): a closing SETTING, TRIM or RESTORE move on a crusher whose power exceeds
the close power limit. -/
def waitsForLoad (st : Station) (m : Move) (d : Dir) : Bool :=
  d == .closing && (m.kind == .setting || m.kind == .trim || m.kind == .restore) &&
    decide (st.record.gapTuning.closePower < st.power.reading)

/-- The checks of R65 to R68 at a settle expiry, in their order. Where there is no position in use they do not run (R23). -/
def State.settleDecision (s : State) (i : StationId) : State :=
  let st := s.st i
  match st.gap.move, st.posInUse with
  | some m, some p =>
    let pt := m.pt.getD 0
    if apart pt p ≤ st.record.gapTuning.d then s.finishLoop i .complete
    else
      let s1 := s.modMove i fun m => { m with noProgress := runAfter m p }
      if stalls m p then s1.finishLoop i .stalled
      else if m.pulses = st.record.gapTuning.pulseLimit then s1.finishLoop i .pulseLimit
      else
        let d := directionTo pt p
        let s2 := s1.modMove i fun m => { m with dir := some d }
        if waitsForLoad st m d then s2.enterWaitLoad i else s2.enterPulse i p
  | _, _ => s

/-- The exit test of WAIT_LOAD at a power event with a reading (R73): at or below the close power limit the move leaves WAIT_LOAD,
completing or giving a pulse. -/
def State.waitLoadExit (s : State) (i : StationId) (reading : Nat) : State :=
  let st := s.st i
  match st.gap.move, st.posInUse with
  | some m, some p =>
    match m.phase with
    | .waitLoad _ _ =>
      if reading ≤ st.record.gapTuning.closePower then
        let s1 := s.leavePhase i
        let pt := m.pt.getD 0
        if apart pt p ≤ st.record.gapTuning.d then (s1.finishLoop i .complete).settleFeed i
        else ((s1.modMove i fun m => { m with dir := some (directionTo pt p) }).enterPulse i p).settleFeed i
      else s
    | _ => s
  | _, _ => s

/-- The end of a pulse at its timer (R70): the valve goes inactive, the simulated position takes the full width under dry run, and
SETTLE begins. -/
def pulseEnd (now : Ticks) (st : Station) : Station :=
  match st.gap.move with
  | none => st
  | some m =>
    match m.phase with
    | .pulse _ w =>
      let g := st.gap.simPulse st.record.gapTuning m.dir w
      let m' := { m with phase := settleFrom now st.record.gapTuning }
      { st with gap := { g with openOut := false, closeOut := false, move := some m' } }
    | _ => st

/-- A suspension takes effect (R76, R77): the phase is abandoned, the dwell and a pending suspend are over. -/
def State.suspendNow (s : State) (i : StationId) : State :=
  ((s.leavePhase i).modMove i fun m => { m with dwell := none, pendingSuspend := false }).modGap i
    fun g => { g with state := .suspended }

/-! ## Meanings of the rows -/

/-- SETTLE_EXPIRY (R65 to R68, R80 to R83). -/
def execSettleExpiry (i : StationId) (s : State) : Host.Outcome State Fault Refusal :=
  .next (s.onStation i fun s =>
    s.atExpiry (s.moveTimer i Move.settleTimer) fun s => (s.settleDecision i).settleFeed i)

/-- PULSE_TIMER_EXPIRY (R70). A move in PULSE goes to SETTLE, so GAP_MOVE stands as it stood (R62). -/
def execPulseTimerExpiry (i : StationId) (s : State) : Host.Outcome State Fault Refusal :=
  .next (s.onStation i fun s =>
    s.atExpiry (s.moveTimer i Move.pulseTimer) fun s => s.modSt i (pulseEnd s.clock))

/-- LOAD_WAIT_EXPIRY (R74). -/
def execLoadWaitExpiry (i : StationId) (s : State) : Host.Outcome State Fault Refusal :=
  .next (s.onStation i fun s =>
    s.atExpiry (s.moveTimer i Move.loadTimer) fun s => (s.finishLoop i .loadTimeout).settleFeed i)

/-- RESUME_DWELL_EXPIRY (R77): the remaining becomes 0, and a pending suspend takes effect. -/
def execResumeDwellExpiry (i : StationId) (s : State) : Host.Outcome State Fault Refusal :=
  .next (s.onStation i fun s =>
    s.atExpiry (s.moveTimer i Move.dwell) fun s =>
      if (((s.st i).gap.move.map Move.pendingSuspend).getD false) = true ∧ (s.st i).gap.state = .moving then
        (s.suspendNow i).settleFeed i
      else s.modMove i fun m => { m with dwell := none })

end Sys2Proof.Machine
end

