-- ==== Sys2Proof/Machine/Calibration.lean ====
section
/-!
DEFINITION. Zero calibration (chapter 6): the drain condition, SEEK, contact, BACKOFF, and the meanings of the calibration's timer
rows. CALIBRATE and CHANGE LINERS are with the gap requests.
-/

namespace Sys2Proof.Machine

/-! ## DRAIN (R104, R105) -/

/-- The drain condition on the held readings (R104). -/
def Station.drained (st : Station) : Bool :=
  decide (st.power.reading ≤ st.record.gapTuning.idlePower) &&
    match st.levelReading with
    | none => true
    | some l => decide (l ≤ st.record.gapTuning.emptyLevel)

/-- One evaluation of the drain condition (R105): the quiet timer of 10 s starts, runs on or stops. -/
def State.drainEval (s : State) (i : StationId) : State :=
  s.modSt i fun st =>
    match st.gap.calibration with
    | none => st
    | some c =>
      if c.phase = .drain then
        let quiet :=
          if st.drained then
            match c.quietTimer with
            | some t => some t
            | none => some (s.clock + secTicks 10)
          else none
        { st with gap := { st.gap with calibration := some { c with quietTimer := quiet } } }
      else st

/-- The quiet timer of a calibration in DRAIN (R105). -/
def State.quietTimer (s : State) (i : StationId) : Option Ticks :=
  (s.st i).gap.calibration.bind fun c => if c.phase = .drain then c.quietTimer else none

/-- The drain timeout timer of a calibration in DRAIN (R104). -/
def State.drainTimer (s : State) (i : StationId) : Option Ticks :=
  (s.st i).gap.calibration.bind fun c => if c.phase = .drain then c.drainTimer else none

/-! ## SEEK (R106, R107) -/

/-- The SEEK move record (R106). -/
def seekMove (now : Ticks) (g : GapTuning) : Move :=
  { kind := .seek, origin := none, tag := none, eff := none, pt := none, strokeClamped := false,
    phase := settleFrom now g, dir := some .closing, pBefore := none, pulses := 0, noProgress := 0,
    pendingSuspend := false, dwell := none, loadWaited := 0 }

/-- DRAIN ends and SEEK begins: both drain timers stop and the SEEK move is formed (R105, R106). -/
def State.beginSeek (s : State) (i : StationId) : State :=
  s.modSt i fun st =>
    { st with gap := { st.gap with
        calibration := st.gap.calibration.map fun c =>
          { c with phase := .seek, drainTimer := none, quietTimer := none }
        move := some (seekMove s.clock st.record.gapTuning) } }

/-- A calibration pulse: of the calibration pulse width, counted in the calibration record as well (R103, R106). -/
def State.seekPulse (s : State) (i : StationId) (p : Nat) : State :=
  (s.modSt i fun st => beginPulse s.clock p st.record.gapTuning.calPulse st).modGap i fun g =>
    { g with calibration := g.calibration.map fun c => { c with seekPulses := c.seekPulses + 1 } }

/-! ## Contact (R108 to R111) -/

/-- The flag of a calibration at contact (R108). -/
def contactFlag (hadZero : Bool) (zOld zNew mCal : Nat) : HistFlag :=
  if !hadZero then .first
  else if zNew < zOld then .zeroJump
  else if mCal < 50000 then .shortBasis
  else .normal

/-- The wear rate after contact: blended for NORMAL, kept otherwise (R109). -/
def rateAfter (flag : HistFlag) (r mCal : Nat) (wm : Int) : Nat :=
  if flag = .normal then blendedRate r (measuredRate wm.toNat mCal) else r

/-- A history of at most eight entries, the oldest dropped before the append (R114). -/
def historyAppend (h : List HistEntry) (e : HistEntry) : List HistEntry :=
  (if 8 ≤ h.length then h.drop (h.length - 7) else h) ++ [e]

/-- The station record after contact at `zNew` (R108 to R110 steps 1 to 4): the number incremented, the history entry appended with
the W held before and the R after, the zero set and M_cal 0. -/
def recordAfterContact (rec : StationRecord) (w : Nat) (hadZero : Bool) (zNew : Nat) : StationRecord :=
  let flag := contactFlag hadZero rec.z zNew rec.mCal
  let wm := measuredWear rec.gapTuning.k rec.z zNew
  let r := rateAfter flag rec.r rec.mCal wm
  let number := (rec.calNumber + 1) % 65536
  let entry : HistEntry :=
    { calNumber := number
      zOld := if hadZero then some rec.z else none
      zNew := zNew
      wm := if hadZero then some wm else none
      mCal := rec.mCal, w := w, r := r, flag := flag }
  { rec with
    calNumber := number, history := historyAppend rec.history entry, z := zNew, zValid := true, r := r, mCal := 0 }

/-- The BACKOFF move record (R34, R111): toward the standing target with W of 0, or toward P_start clamped. Its effective target is the
standing target as it stands, whatever the limits clamp the target position to (R111). -/
def backoffMove (now : Ticks) (rec : StationRecord) (standing : Option Nat) (pStart : Nat) : Move :=
  let base := seekMove now rec.gapTuning
  match standing with
  | some t =>
    let f := fixPoint rec.limits rec.gapTuning.k rec.z 0 t
    { base with kind := .backoff, eff := some t, pt := some f.pt, strokeClamped := f.strokeClamped, dir := none }
  | none =>
    let pt := clampTo rec.limits.pMin rec.limits.pMax pStart
    { base with kind := .backoff, pt := some pt, strokeClamped := pt != pStart, dir := none }

/-- Contact is found at `zNew` (R108 to R111): the record and wear follow, the trim-inhibit flag clears, a write is requested, and
BACKOFF is formed. -/
def State.contact (s : State) (i : StationId) (zNew : Nat) : State :=
  let st := s.st i
  match st.gap.calibration with
  | none => s
  | some c =>
    let s1 := s.modRecord i fun rec => recordAfterContact rec st.gap.w c.hadZero zNew
    let s2 := s1.recomputeWear i st.capped
    let s3 := (s2.modGap i fun g => { g with trimInhibit := false }).requestWrite i
    s3.modSt i fun st =>
      let move := some (backoffMove s.clock st.record st.gap.standing c.pStart)
      { st with gap := { st.gap with
          calibration := some { c with phase := .backoff, zNew := some zNew }, move := move } }

/-- The contact run after a settle expiry of SEEK (R107 step 2). -/
def contactRun (m : Move) (p : Nat) : Nat :=
  match m.pBefore with
  | none => m.noProgress
  | some b => if (p : Int) - b < 1 then m.noProgress + 1 else 0

/-- The tests of a SEEK settle expiry, in their order (R107): range, contact, limit, pulse. -/
def State.seekDecision (s : State) (i : StationId) : State :=
  let st := s.st i
  match st.gap.move, st.posInUse with
  | some m, some p =>
    if p = 65535 then (s.endCalibration i .noContact).toRest i
    else
      let s1 := s.modMove i fun m => { m with noProgress := contactRun m p }
      if m.pBefore.isSome ∧ contactRun m p = 2 then s1.contact i p
      else if m.pulses = st.record.gapTuning.calPulseLimit then (s1.endCalibration i .noContact).toRest i
      else s1.seekPulse i p
  | _, _ => s

/-! ## Meanings of the rows -/

/-- QUIET_TIMER_EXPIRY (R105, R106). -/
def execQuietTimerExpiry (i : StationId) (s : State) : Host.Outcome State Fault Refusal :=
  .next (s.onStation i fun s => s.atExpiry (s.quietTimer i) fun s => (s.beginSeek i).settleFeed i)

/-- DRAIN_TIMEOUT_EXPIRY (R105, R112). -/
def execDrainTimeoutExpiry (i : StationId) (s : State) : Host.Outcome State Fault Refusal :=
  .next (s.onStation i fun s =>
    s.atExpiry (s.drainTimer i) fun s => ((s.endCalibration i .notEmpty).toRest i).settleFeed i)

/-- SEEK_SETTLE_EXPIRY (R107 to R111). -/
def execSeekSettleExpiry (i : StationId) (s : State) : Host.Outcome State Fault Refusal :=
  .next (s.onStation i fun s =>
    s.atExpiry (s.moveTimer i Move.seekTimer) fun s => (s.seekDecision i).settleFeed i)

end Sys2Proof.Machine
end

