-- ==== Sys2Proof/Machine/Relief.lean ====
section
/-!
DEFINITION. Tramp relief and restore (chapter 5): the tramp onset list, the onset by state, the clearance and the relief hold, the forming
of a restore, and the meanings of the tramp rows. The filter of a row's transition is in Machine/Channels.lean.
-/

namespace Sys2Proof.Machine

/-! ## The tramp onset list (R86) -/

/-- The age of an onset in ms at a running time, modulo 2^32 (R16, R86). -/
def onsetAge (now t : Nat) : Nat := (now + 4294967296 - t) % 4294967296

/-- The entries whose age does not exceed the tramp window (R86). -/
def ageOnsets (window now : Nat) (xs : List Nat) : List Nat :=
  xs.filter fun t => decide (onsetAge now t ≤ window * 1000)

/-- The list after an onset: aged, the oldest dropped where 8 remain, the new one appended (R86 steps 1 to 3). -/
def listOnset (window now : Nat) (xs : List Nat) : List Nat :=
  let aged := ageOnsets window now xs
  (if 8 ≤ aged.length then aged.drop (aged.length - 7) else aged) ++ [now]

/-! ## Onset by state (R87 to R94) -/

/-- The state becomes RELIEVED from another state than RESTORING, with P_save and a clear no-restore mark and a stopped hold timer
(R90 to R92). -/
def GapChannel.relieve (g : GapChannel) (pSave : Option Nat) : GapChannel :=
  { g with state := .relieved, pSave := pSave, noRestore := false, holdTimer := none }

/-- The context formed from a move set aside (R91, R96): without its phase, dwell or pending suspend. -/
def contextOf (m : Move) (suspended : Bool) : Context :=
  { move := { m with phase := .parked, dwell := none, pendingSuspend := false }, suspended := suspended }

/-- The onset passes the repeat check and acts by state (R89 to R94). -/
def State.onsetByState (s : State) (i : StationId) : State :=
  match (s.st i).gap.state with
  | .idle => s.modSt i fun st => { st with gap := st.gap.relieve st.posInUse }
  | .unreferenced => s.modSt i fun st => { st with gap := st.gap.relieve st.posInUse }
  | .moving =>
    (s.leavePhase i).modSt i fun st =>
      let g := st.gap.relieve st.posInUse
      { st with gap := { g with context := g.move.map fun m => contextOf m false, move := none } }
  | .suspended =>
    s.modSt i fun st =>
      let g := st.gap.relieve st.posInUse
      { st with gap := { g with context := g.move.map fun m => contextOf m true, move := none } }
  | .calibrating =>
    let pStart := (s.st i).gap.calibration.map Calibration.pStart
    (s.endCalibration i .aborted).modGap i fun g => g.relieve pStart
  | .relieved => s.modGap i fun g => { g with holdTimer := none }
  | .restoring => (s.leavePhase i).modGap i fun g => { g with state := .relieved, move := none, holdTimer := none }
  | .isolated => s
  | .faulted => s

/-- The tramp onset at the running time of this moment (R86 to R94): it is listed, TRAMP is raised, the repeat check is made, and
it acts by state. -/
def State.onset (s : State) (i : StationId) : State :=
  let s1 := (s.modSt i fun st =>
    { st with gap := { st.gap with
        onsets := listOnset st.record.gapTuning.trampWindow s.runningTime st.gap.onsets } }).raise i .tramp
  let st := s1.st i
  if st.gap.state = .isolated ∨ st.gap.state = .faulted then s1
  else if st.record.gapTuning.trampLimit ≤ st.gap.onsets.length then s1.enterFaulted i .trampRepeat
  else s1.onsetByState i

/-- The tramp clearance (R98): in RELIEVED the relief hold timer starts; elsewhere it does nothing. -/
def State.clearance (s : State) (i : StationId) : State :=
  s.modSt i fun st =>
    if st.gap.state = .relieved then
      let timer := some (s.clock + secTicks st.record.gapTuning.reliefHold)
      { st with gap := { st.gap with holdTimer := timer } }
    else st

/-! ## Hold expiry (R98 to R101) -/

/-- The RESTORE move toward P_save (R100). -/
def restoreMove (now : Ticks) (g : GapTuning) (pSave : Nat) : Move :=
  { kind := .restore, origin := none, tag := none, eff := none, pt := some pSave, strokeClamped := false,
    phase := settleFrom now g, dir := none, pBefore := none, pulses := 0, noProgress := 0,
    pendingSuspend := false, dwell := none, loadWaited := 0 }

/-- The relief hold expires (R98): a restore is formed toward P_save, or the relief ends without one. -/
def State.holdExpired (s : State) (i : StationId) : State :=
  let g := (s.st i).gap
  match g.pSave, g.noRestore with
  | some p, false =>
    s.modSt i fun st =>
      { st with gap := { st.gap with
          state := .restoring, holdTimer := none, move := some (restoreMove s.clock st.record.gapTuning p) } }
  | _, _ => s.endRelief i

/-! ## Meanings of the rows -/

/-- RELIEF_HOLD_EXPIRY (R98, R100, R101). -/
def execReliefHoldExpiry (i : StationId) (s : State) : Host.Outcome State Fault Refusal :=
  .next (s.onStation i fun s =>
    s.atExpiry (s.st i).gap.holdTimer fun s => (s.holdExpired i).settleFeed i)

/-- TEST_TRAMP_EXPIRY (R160): the simulated input goes inactive and a clearance is taken. -/
def execTestTrampExpiry (i : StationId) (s : State) : Host.Outcome State Fault Refusal :=
  .next (s.onStation i fun s =>
    s.atExpiry (s.st i).gap.testTimer fun s =>
      (s.modGap i fun g => { g with testTimer := none, simTramp := false }).clearance i)

/-- TRAMP_LIST_AGEING (R86): at a whole second of the time elapsed, aged entries are dropped. -/
def execTrampListAgeing (i : StationId) (s : State) : Host.Outcome State Fault Refusal :=
  .next (s.onStation i fun s =>
    let s := s.reach (gridCeil s.epoch (secTicks 1) s.clock)
    s.modSt i fun st =>
      { st with gap := { st.gap with
          onsets := ageOnsets st.record.gapTuning.trampWindow s.runningTime st.gap.onsets } })

end Sys2Proof.Machine
end

