-- ==== Sys2Proof/Machine/Channels.lean ====
section
/-!
DEFINITION. The measurement channels (chapter 1): captures and samples, echo windows, power periods, the scale and tramp filters, what each
hands to the other blocks, and the meanings of their rows.
-/

namespace Sys2Proof.Machine

/-! ## Position channel (1.1) -/

/-- The position-lost event reaches the gap channel (R3, R164): an ISOLATED station keeps its state, a FAULTED one takes the cause,
every other goes FAULTED. -/
def State.positionLost (s : State) (i : StationId) : State :=
  match (s.st i).gap.state with
  | .isolated => s
  | .faulted => (s.modGap i fun g => { g with cause := some .positionLost }).raise i .fault
  | _ => s.enterFaulted i .positionLost

/-- The position channel after a sample completion: a valid position, or an invalid sample counted in the run (R2, R3). -/
def positionSampled (c : PositionChannel) (p : Option Nat) : PositionChannel :=
  match p with
  | some p => { c with p := p, valid := true, seen := true, run := 0, capture := .closed }
  | none => { c with valid := c.valid && c.run != 2, run := min 3 (c.run + 1), capture := .closed }

/-- A sample completion at station `i` (R2 to R4): a simulated position left over from a dry run is discarded (R158), and a third
invalid sample hands a position-lost event where dry run is off. -/
def State.sampleDone (s : State) (i : StationId) (p : Option Nat) : State :=
  let st := s.st i
  let s1 := s.modSt i fun st =>
    let sim := if st.gap.dryRun then st.gap.sim else none
    { st with pos := positionSampled st.pos p, gap := { st.gap with sim := sim } }
  if p = none ∧ st.pos.run = 2 ∧ st.gap.dryRun = false then (s1.positionLost i).settleFeed i else s1

/-- The position of a width sample: valid where W0 ≤ w ≤ W0 + 65,535 (R2). -/
def positionOfWidth (w0 w : Nat) : Option Nat := if w0 ≤ w ∧ w ≤ w0 + 65535 then some (w - w0) else none

/-- POSITION_INTERROGATION (R1, R18): at the next time of the 5 ms grid a pulse starts and a capture opens. -/
def execPositionInterrogation (i : StationId) (s : State) : Host.Outcome State Fault Refusal :=
  .next (s.onStation i fun s =>
    let s := s.reach (gridCeil s.epoch (msTicks 5) (max s.clock (s.st i).pos.nextAt))
    s.modPos i fun c =>
      { c with capture := .waiting s.clock, pulsedAt := some s.clock, nextAt := gridNext s.epoch (msTicks 5) s.clock })

/-- POS_RETURN_LEADING_EDGE (R1): within 1 ms of the interrogation it starts the width count; else it is disregarded. -/
def execPosReturnLeadingEdge (dt : Ticks) (i : StationId) (s : State) : Host.Outcome State Fault Refusal :=
  .next ((s.elapse dt).onStation i fun s =>
    s.modPos i fun c =>
      match c.capture with
      | .waiting t => if s.clock ≤ t + msTicks 1 then { c with capture := .counting s.clock } else c
      | _ => c)

/-- POS_RETURN_TRAILING_EDGE (R1, R2): it ends a counting capture with a width sample; else it is disregarded. -/
def execPosReturnTrailingEdge (dt : Ticks) (i : StationId) (s : State) : Host.Outcome State Fault Refusal :=
  .next ((s.elapse dt).onStation i fun s =>
    match (s.st i).pos.capture with
    | .counting t => s.sampleDone i (positionOfWidth (s.st i).record.gapTuning.w0 (s.clock - t))
    | _ => s)

/-- NO_RETURN_TIMEOUT (R1): 1 ms from the interrogation with no leading edge. -/
def execNoReturnTimeout (i : StationId) (s : State) : Host.Outcome State Fault Refusal :=
  .next (s.onStation i fun s =>
    match (s.st i).pos.capture with
    | .waiting t => (s.reach (t + msTicks 1)).sampleDone i none
    | _ => s)

/-- WIDTH_TOO_LONG (R1): the width count reaches W0 + 65,536. -/
def execWidthTooLong (i : StationId) (s : State) : Host.Outcome State Fault Refusal :=
  .next (s.onStation i fun s =>
    match (s.st i).pos.capture with
    | .counting t => (s.reach (t + (s.st i).record.gapTuning.w0 + 65536)).sampleDone i none
    | _ => s)

/-! ## Level channel (1.2) -/

/-- A change of the stop set by the regulator itself, acting at once (R121). -/
def State.modStops (s : State) (i : StationId) (f : StopSet → StopSet) : State :=
  s.modSt i fun st => { st with feed := setStops s.clock st.record.feedTuning st.feed (f st.feed.stops) }

/-- A valid echo at level `l` (R7, R8): the level reading is `l`, and where the level was lost the regulator removes LEVEL_LOST and
makes its previous level error absent (R131). -/
def State.echoValidDone (s : State) (i : StationId) (l : Nat) : State :=
  let wasLost := (s.st i).level.lost
  let s1 := s.modLevel i fun c =>
    { c with last := some l, run := 0, lost := false, window := none,
             lostTimer := if c.lost then none else c.lostTimer }
  let s2 :=
    if wasLost then
      ((s1.modStops i fun x => { x with levelLost := false }).modFeed i fun f =>
        { f with prevError := none }).settleFeed i
    else s1
  s2.drainEval i

/-- An invalid echo (R7): counted in the run; the third makes the level lost, raises LEVEL LOST and starts the lost timer. -/
def State.echoInvalidDone (s : State) (i : StationId) : State :=
  let st := s.st i
  let s1 := s.modLevel i fun c => { c with run := min 3 (c.run + 1), window := none }
  if st.level.run = 2 then
    let timer := some (s.clock + secTicks st.record.feedTuning.levelLostTimeout)
    ((s1.modLevel i fun c => { c with lost := true, lostTimer := timer }).raise i .levelLost).drainEval i
  else s1

/-- ECHO_TRIGGER (R5, R18): at the next time of the 100 ms grid a trigger starts and an echo window opens. -/
def execEchoTrigger (i : StationId) (s : State) : Host.Outcome State Fault Refusal :=
  .next (s.onStation i fun s =>
    let s := s.reach (gridCeil s.epoch (msTicks 100) (max s.clock (s.st i).level.nextAt))
    s.modLevel i fun c =>
      { c with window := some s.clock, pulsedAt := some s.clock, nextAt := gridNext s.epoch (msTicks 100) s.clock })

/-- ECHO_RISING_EDGE (R5, R6): the first edge inside the window ends it; other edges are disregarded. -/
def execEchoRisingEdge (dt : Ticks) (i : StationId) (s : State) : Host.Outcome State Fault Refusal :=
  .next ((s.elapse dt).onStation i fun s =>
    match (s.st i).level.window with
    | some t =>
      if s.clock < t + msTicks 50 then
        let us := (s.clock - t) / 40
        if echoValid us then s.echoValidDone i (levelOfEcho (s.st i).record.feedTuning.hMount us)
        else s.echoInvalidDone i
      else s
    | none => s)

/-- ECHO_WINDOW_EXPIRY (R5, R7): the window ends at 50 ms with no echo. -/
def execEchoWindowExpiry (i : StationId) (s : State) : Host.Outcome State Fault Refusal :=
  .next (s.onStation i fun s =>
    match (s.st i).level.window with
    | some t => (s.reach (t + msTicks 50)).echoInvalidDone i
    | none => s)

/-- LEVEL_LOST_TIMEOUT (R8, R131): with the level still lost, LEVEL_LOST is posted. -/
def execLevelLostTimeout (i : StationId) (s : State) : Host.Outcome State Fault Refusal :=
  .next (s.onStation i fun s =>
    s.atExpiry (s.st i).level.lostTimer fun s =>
      let s1 := s.modLevel i fun c => { c with lostTimer := none }
      if (s.st i).level.lost then (s1.modStops i fun x => { x with levelLost := true }).settleFeed i else s1)

/-! ## Power channel (1.3) -/

/-- A power event handed to the gap channel (R12): the WAIT_LOAD exit test and the drain evaluation. -/
def State.powerEvent (s : State) (i : StationId) (reading : Nat) : State :=
  (s.waitLoadExit i reading).drainEval i

/-- A time kept to 1 µs (R9): the whole µs of the model's clock, rounded down (assumption log 19). -/
def edgeMicros (now : Ticks) : Nat := now / 40

/-- The period in µs that a pulse completes (R9): the time since the kept time of the last edge, floor, and 1 where it would be 0. -/
def periodMicros (now : Ticks) (lastEdge : Nat) : Nat := max 1 ((now - usTicks lastEdge) / 40)

/-- POWER_PULSE (R9, R10): a pulse completes an open period, opens the next and restarts the stale timer. -/
def execPowerPulse (dt : Ticks) (i : StationId) (s : State) : Host.Outcome State Fault Refusal :=
  .next ((s.elapse dt).onStation i fun s =>
    let st := s.st i
    let s1 := s.modPower i fun c =>
      { c with openPeriod := true, lastEdge := edgeMicros s.clock, staleTimer := some (s.clock + secTicks 2) }
    if st.power.openPeriod then
      let reading := powerOfPeriod st.record.feedTuning.ep (periodMicros s.clock st.power.lastEdge)
      (s1.modPower i fun c => { c with reading := reading, fresh := true }).powerEvent i reading
    else s1)

/-- STALE_EXPIRY (R11): the reading is 0 and not fresh, no period is open, and a power event of 0 is handed. -/
def execStaleExpiry (i : StationId) (s : State) : Host.Outcome State Fault Refusal :=
  .next (s.onStation i fun s =>
    s.atExpiry (s.st i).power.staleTimer fun s =>
      (s.modPower i fun c =>
        { c with reading := 0, fresh := false, openPeriod := false, staleTimer := none }).powerEvent i 0)

/-! ## Scale deliveries (R15) -/

/-- The gap channel's part of a delivery of mass `m` (R25): M_cal saturates, W follows, the trim check runs in IDLE, and a wear
checkpoint requests a write (R186). -/
def State.deliverToGap (s : State) (i : StationId) (m : Nat) : State :=
  let st := s.st i
  let before := st.record.mCal
  let after := min 4294967295 (before + m)
  let s1 := (s.modRecord i fun rec => { rec with mCal := after }).recomputeWear i st.capped
  let s2 := if st.gap.state = .idle then s1.trimCheck i else s1
  if crossesCheckpoint s.device.checkpoint before after then s2.requestWrite i else s2

/-- The lot accumulator's part of a delivery (R142 to R144, R148): a lot opens where none is, takes the mass, and closes FULL or
restarts the lean timer. -/
def State.deliverToLots (s : State) (i : StationId) (m : Nat) : State :=
  let st := s.st i
  let opened := match st.lots.lot with
    | some l => l
    | none => openingLot st s.device.lotSize
  let next := match st.lots.lot with
    | some _ => st.lots.nextNumber
    | none => (st.lots.nextNumber + 1) % 65536
  let l := { opened with mass := opened.mass + m }
  let s1 := s.modLots i fun x => { x with lot := some l, nextNumber := next, mass := massAfter x.mass m }
  if l.size ≤ l.mass then (s1.closeLot i .full).fullClose i
  else s1.modLots i fun x => { x with leanTimer := some (s.clock + secTicks s.device.leanTime) }

/-- An accepted scale pulse delivers its mass to the gap channel and then to the lot accumulator (R15, R143). -/
def State.deliver (s : State) (i : StationId) : State :=
  let m := (s.st i).record.feedTuning.scaleMass
  (((s.deliverToGap i m).deliverToLots i m).settleFeed i)

/-! ## Filters (1.4) -/

/-- The tick period of the filter clock (R13). -/
def filterPeriod (c : FilterClock) : Ticks :=
  match c with
  | .khz1 => msTicks 1
  | .hz250 => msTicks 4

/-- The first tick of the filter clock in force that is not before `t` (R13). -/
def State.filterTickFrom (s : State) (t : Ticks) : Ticks :=
  let period := filterPeriod s.device.filterClock
  max (s.filterBase + period) (gridCeil s.filterBase period t)

/-- The scale filter of station `i` takes a level. -/
def State.setScale (s : State) (i : StationId) (f : ScaleFilter) : State := s.modSt i fun st => { st with scale := f }

/-- The tramp filter of station `i` takes a level. -/
def State.setTramp (s : State) (i : StationId) (f : TrampFilter) : State := s.modSt i fun st => { st with tramp := f }

/-- The tramp filter's accepted transition to `level` is handed to the gap channel, but for dry run (R16, R17). -/
def State.trampTransition (s : State) (i : StationId) (level : Bool) : State :=
  let s1 := s.setTramp i { level := level, run := 0 }
  if (s.st i).gap.dryRun then s1
  else if level then (s1.onset i).settleFeed i
  else s1.clearance i

/-- The scale filter's accepted transition to `level`: to active it delivers a pulse, to inactive nothing (R14). -/
def State.scaleTransition (s : State) (i : StationId) (level : Bool) : State :=
  let s1 := s.setScale i (.defined level 0)
  if level then s1.deliver i else s1

/-- One sample at the scale filter of a station (R13, R14). -/
def State.sampleScale (s : State) (i : StationId) (level : Bool) : State :=
  match (s.st i).scale with
  | .undefined last n =>
    if n = 0 ∨ last ≠ level then s.setScale i (.undefined level 1)
    else if n + 1 ≥ 3 then s.setScale i (.defined level 0)
    else s.setScale i (.undefined level (n + 1))
  | .defined accepted run =>
    match filterStep accepted run level with
    | (l, _, true) => s.scaleTransition i l
    | (l, r, false) => s.setScale i (.defined l r)

/-- One sample at the tramp filter of a station (R13, R16). -/
def State.sampleTramp (s : State) (i : StationId) (level : Bool) : State :=
  let f := (s.st i).tramp
  match filterStep f.level f.run level with
  | (l, _, true) => s.trampTransition i l
  | (l, r, false) => s.setTramp i { level := l, run := r }

/-- One sample of a tick, taken by a present station alone (R13, R18). -/
def State.takeSample (s : State) (x : FilterSample) : State :=
  match x.input with
  | .scale =>
    let s := { s with pins := { s.pins with scale := s.pins.scale.set x.station x.level } }
    if s.present x.station then s.sampleScale x.station x.level else s
  | .tramp =>
    let s := { s with pins := { s.pins with tramp := s.pins.tramp.set x.station x.level } }
    if s.present x.station then s.sampleTramp x.station x.level else s

/-- FILTER_CLOCK_TICK (R13 to R17): at the next tick every listed filter samples, in the order listed (assumption log 6). -/
def execFilterClockTick (samples : List FilterSample) (s : State) : Host.Outcome State Fault Refusal :=
  .next (s.whenRunning fun s =>
    let s := s.reach (s.filterTickFrom (max s.clock (s.filterLast + 1)))
    samples.foldl State.takeSample { s with filterLast := s.clock })

/-- Work dated at a tick of the filter clock. -/
def State.atFilterTick (s : State) (i : StationId) (f : State → State) : State :=
  s.onStation i fun s => f (s.reach (s.filterTickFrom s.clock))

/-- SCALE_FILTER_DEFINED (R14): the third equal sample makes an undefined filter defined; no pulse is counted. -/
def execScaleFilterDefined (dt : Ticks) (i : StationId) (level : Bool) (s : State) : Host.Outcome State Fault Refusal :=
  .next ((s.elapse dt).atFilterTick i fun s =>
    match (s.st i).scale with
    | .undefined _ _ => s.setScale i (.defined level 0)
    | _ => s)

/-- SCALE_PULSE (R14, R15): an accepted transition from inactive to active. -/
def execScalePulse (dt : Ticks) (i : StationId) (s : State) : Host.Outcome State Fault Refusal :=
  .next ((s.elapse dt).atFilterTick i fun s =>
    match (s.st i).scale with
    | .defined false _ => s.scaleTransition i true
    | _ => s)

/-- SCALE_INACTIVE_TRANSITION (R14): an accepted transition from active to inactive. -/
def execScaleInactiveTransition (dt : Ticks) (i : StationId) (s : State) : Host.Outcome State Fault Refusal :=
  .next ((s.elapse dt).atFilterTick i fun s =>
    match (s.st i).scale with
    | .defined true _ => s.scaleTransition i false
    | _ => s)

/-- TRAMP_ONSET (R16, R17, R86): an accepted transition of the tramp filter to active. -/
def execTrampOnset (dt : Ticks) (i : StationId) (s : State) : Host.Outcome State Fault Refusal :=
  .next ((s.elapse dt).atFilterTick i fun s =>
    if (s.st i).tramp.level then s else s.trampTransition i true)

/-- TRAMP_CLEARANCE (R16, R17, R98): an accepted transition of the tramp filter to inactive. -/
def execTrampClearance (dt : Ticks) (i : StationId) (s : State) : Host.Outcome State Fault Refusal :=
  .next ((s.elapse dt).atFilterTick i fun s =>
    if (s.st i).tramp.level then s.trampTransition i false else s)

end Sys2Proof.Machine
end

