-- ==== Sys2Proof/Machine/Records.lean ====
section
/-!
DEFINITION. The reply records of 13.5 and the codes of 13.4, byte for byte: the station status record (R175), the wear record (R176),
the lot record (R150), the device record (R177) and the attention sets (R180). R191 governs: most significant byte first, an absent
field as zero bytes with its presence bit clear, unassigned bits 0.
-/

namespace Sys2Proof.Machine

/-! ## Codes (13.4) -/

/-- Result codes (R49, 10.4). -/
inductive ResultCode where
  | done | accepted | clamped | ignored | busy | queueFull | noZero | wrongState | isolated | faulted
  | absentStation | badStation | badValue | badChain | locked | unknownKind | badLength
deriving DecidableEq, Repr

/-- The byte of a result code (13.4). -/
def ResultCode.byte : ResultCode → Byte
  | .done => 0x00 | .accepted => 0x01 | .clamped => 0x02 | .ignored => 0x03 | .busy => 0x04 | .queueFull => 0x05
  | .noZero => 0x06 | .wrongState => 0x07 | .isolated => 0x08 | .faulted => 0x09 | .absentStation => 0x0A
  | .badStation => 0x0B | .badValue => 0x0C | .badChain => 0x0D | .locked => 0x0E | .unknownKind => 0x0F
  | .badLength => 0x10

def gapStateCode : GapState → Byte
  | .unreferenced => 0x00 | .idle => 0x01 | .moving => 0x02 | .suspended => 0x03 | .relieved => 0x04
  | .restoring => 0x05 | .calibrating => 0x06 | .isolated => 0x07 | .faulted => 0x08

def movePhaseCode : MovePhase → Byte
  | .parked => 0x00 | .settle _ => 0x01 | .pulse _ _ => 0x02 | .waitLoad _ _ => 0x03

def calPhaseCode : CalPhase → Byte
  | .drain => 0x04 | .seek => 0x05 | .backoff => 0x06

def moveKindCode : MoveKind → Byte
  | .setting => 0x01 | .trim => 0x02 | .restore => 0x03 | .seek => 0x04 | .backoff => 0x05

def originCode : Origin → Byte
  | .link => 0x01 | .schedule => 0x02 | .trim => 0x03

def dirCode : Dir → Byte
  | .opening => 0x01 | .closing => 0x02

def moveResultCode : MoveResult → Byte
  | .complete => 0x01 | .cancelled => 0x02 | .halted => 0x03 | .stalled => 0x04 | .pulseLimit => 0x05
  | .loadTimeout => 0x06 | .isolated => 0x07 | .faulted => 0x08

def calResultCode : CalResult → Byte
  | .done => 0x01 | .backoffFailed => 0x02 | .notEmpty => 0x03 | .noContact => 0x04 | .aborted => 0x05

def histFlagCode : HistFlag → Byte
  | .normal => 0x01 | .shortBasis => 0x02 | .zeroJump => 0x03 | .first => 0x04

def faultCauseCode : FaultCause → Byte
  | .positionLost => 0x01 | .trampRepeat => 0x02 | .restoreStalled => 0x03

def feedModeCode : FeedMode → Byte
  | .stop => 0x00 | .manual => 0x01 | .auto => 0x02

def schedStateCode : SchedState → Byte
  | .empty => 0x00 | .loaded => 0x01 | .running => 0x02 | .held => 0x03 | .ended => 0x04

def closeReasonCode : CloseReason → Byte
  | .full => 0x01 | .short => 0x02 | .cut => 0x03

/-- Writer state: 00h idle, 01h the device record, 02h to 05h station 0 to 3's record (13.4). -/
def writerCode : Writer → Byte
  | .idle => 0x00
  | .device _ _ => 0x01
  | .station i _ _ => BitVec.ofNat 8 (2 + i.val)

/-! ## Encoding helpers (R191) -/

/-- A number whose bits are given, bit 0 first. -/
def bitsNat : List Bool → Nat
  | [] => 0
  | b :: bs => (if b then 1 else 0) + 2 * bitsNat bs

/-- An optional number: an absent field is sent as zero bytes. -/
def optBytes (w : Nat) (x : Option Nat) : List Byte := beBytes w (x.getD 0)

/-- An optional code. -/
def optCode {α : Type} (f : α → Byte) (x : Option α) : Byte :=
  match x with
  | some a => f a
  | none => 0x00

/-- Zero bytes. -/
def zeroBytes (n : Nat) : List Byte := List.replicate n 0x00#8

/-- A signed number in two's complement, four bytes. -/
def signedBytes (n : Int) : List Byte := beBytes 4 (BitVec.ofInt 32 n).toNat

/-- A present record, or zero bytes of its length. -/
def optRecord {α : Type} (len : Nat) (f : α → List Byte) (x : Option α) : List Byte :=
  match x with
  | some a => f a
  | none => zeroBytes len

/-- The first `n` slots of `len` bytes each, those beyond the list as zero. -/
def slots {α : Type} (n len : Nat) (f : α → List Byte) (xs : List α) : List Byte :=
  ((xs.take n).map f).flatten ++ zeroBytes ((n - xs.length) * len)

/-! ## Station status record (READ STATION, 161 bytes) -/

/-- A queue slot, 12 bytes. -/
def queueSlot (e : SettingEntry) : List Byte :=
  beBytes 4 e.requested ++ beBytes 4 e.effective ++
    [BitVec.ofNat 8 (bitsNat [e.clamped]), originCode e.origin] ++ optBytes 1 e.tag ++ optBytes 1 e.step

/-- Whole ms left on a timer, rounded down (R79). -/
def msLeft (now : Ticks) (timer : Option Ticks) : Nat :=
  match timer with
  | some t => (t - now) / 40000
  | none => 0

/-- Load-wait time elapsed as shown (R72): counting in WAIT_LOAD, the last visit's figure outside it. -/
def Move.loadWaitShown (now : Ticks) (m : Move) : Nat :=
  match m.phase with
  | .waitLoad t _ => loadWaitSeconds now t
  | _ => m.loadWaited

/-- A move record or a context, 21 bytes; `last` is bit 7 of the flags. -/
def moveBytes (now : Ticks) (m : Move) (last : Bool) : List Byte :=
  [BitVec.ofNat 8 (bitsNat [m.origin.isSome, m.tag.isSome, m.eff.isSome, m.pt.isSome, m.dir.isSome, m.pBefore.isSome,
      m.strokeClamped, last]),
    moveKindCode m.kind, optCode originCode m.origin] ++
  optBytes 1 m.tag ++ optBytes 4 m.eff ++ optBytes 2 m.pt ++ [movePhaseCode m.phase, optCode dirCode m.dir] ++
  optBytes 2 m.pBefore ++ beBytes 2 m.pulses ++ beBytes 1 m.noProgress ++ beBytes 2 (msLeft now m.dwell) ++
  beBytes 2 (m.loadWaitShown now)

/-- A last move result, 12 bytes. -/
def lastMoveBytes (r : LastMove) : List Byte :=
  [BitVec.ofNat 8 (bitsNat [r.tag.isSome, r.finalPos.isSome, r.strokeClamped]), moveResultCode r.result,
    moveKindCode r.kind, optCode originCode r.origin] ++
  optBytes 1 r.tag ++ optBytes 4 r.eff ++ optBytes 2 r.finalPos ++ beBytes 1 r.pulses

/-- The phase byte of the status record: the move's in MOVING and RESTORING, the calibration's in CALIBRATING (R39). -/
def statusPhase (g : GapChannel) : Byte :=
  match g.state with
  | .moving => optCode (fun m : Move => movePhaseCode m.phase) g.move
  | .restoring => optCode (fun m : Move => movePhaseCode m.phase) g.move
  | .calibrating => optCode (fun c : Calibration => calPhaseCode c.phase) g.calibration
  | _ => 0x00

/-- The sub-phase byte: SETTLE or PULSE in SEEK and BACKOFF (R39, R175). -/
def statusSubPhase (g : GapChannel) : Byte :=
  match g.state with
  | .calibrating => optCode (fun m : Move => movePhaseCode m.phase) g.move
  | _ => 0x00

/-- The stop set, two bytes (13.4). -/
def stopBits (x : StopSet) : Nat :=
  bitsNat [x.tramp, x.calibration, x.isolated, x.dryRun, x.fault, x.notRunning, x.overload, x.levelLost, x.downstream]

/-- The presence word of the status record. -/
def statusPresence (st : Station) : Nat :=
  bitsNat [st.posInUse.isSome, st.geometric.isSome, st.estimated.isSome, st.record.zValid, st.gap.standing.isSome,
    st.gap.move.isSome, st.gap.context.isSome, st.gap.pSave.isSome, st.gap.lastMove.isSome, st.gap.cause.isSome,
    st.levelReading.isSome]

/-- The flags byte of the status record. -/
def statusFlags (st : Station) : Nat :=
  bitsNat [st.pos.valid, st.gap.dryRun, st.gap.state == .isolated, st.beyondZero, st.gap.trimInhibit, st.power.fresh]

/-- The station status record (R175, 13.5), 161 bytes. -/
def stationStatus (now : Ticks) (st : Station) : List Byte :=
  beBytes 2 (statusPresence st) ++
  [gapStateCode st.gap.state, statusPhase st.gap, statusSubPhase st.gap] ++
  optBytes 2 st.posInUse ++ beBytes 2 st.pos.p ++ beBytes 1 (statusFlags st) ++
  optBytes 4 st.geometric ++ beBytes 3 st.gap.w ++ optBytes 4 st.estimated ++
  optBytes 2 (if st.record.zValid then some st.record.z else none) ++ optBytes 4 st.gap.standing ++
  beBytes 1 st.gap.queue.length ++ slots 4 12 queueSlot st.gap.queue ++
  optRecord 21 (fun m => moveBytes now m m.pendingSuspend) st.gap.move ++
  optRecord 21 (fun c : Context => moveBytes now c.move c.suspended) st.gap.context ++
  optBytes 2 st.gap.pSave ++ optRecord 12 lastMoveBytes st.gap.lastMove ++
  [optCode faultCauseCode st.gap.cause] ++ beBytes 1 st.gap.onsets.length ++
  [feedModeCode st.feed.mode] ++ beBytes 2 st.feed.output ++ beBytes 2 st.feed.demand ++
  beBytes 2 (stopBits st.feed.stops) ++ beBytes 1 (bitsNat [st.feed.gapMove]) ++
  beBytes 1 (bitsNat [st.feed.gapLoadWait, st.feed.powerHigh]) ++
  optBytes 2 st.levelReading ++ beBytes 2 st.power.reading ++
  [schedStateCode st.sched.state] ++ beBytes 1 st.sched.index ++
  optBytes 4 (st.lots.lot.map OpenLot.mass) ++ beBytes 6 st.lots.mass ++ beBytes 2 st.lots.dropped

/-! ## Wear record (READ WEAR, 192 bytes) -/

/-- A history entry, 20 bytes. -/
def histBytes (e : HistEntry) : List Byte :=
  beBytes 2 e.calNumber ++ optBytes 2 e.zOld ++ beBytes 2 e.zNew ++ signedBytes (e.wm.getD 0) ++ beBytes 4 e.mCal ++
  beBytes 3 e.w ++ beBytes 2 e.r ++ [histFlagCode e.flag]

/-- A last calibration result, 13 bytes. -/
def lastCalBytes (r : LastCal) : List Byte :=
  [BitVec.ofNat 8 (bitsNat [r.zNew.isSome, r.finalPos.isSome, r.backoffPulses.isSome]), calResultCode r.result] ++
  beBytes 2 r.pStart ++ optBytes 2 r.zNew ++ optBytes 2 r.finalPos ++ beBytes 2 r.seekPulses ++
  optBytes 1 r.backoffPulses ++ beBytes 2 r.calNumber

/-- The wear record (R176), 192 bytes. -/
def wearRecord (st : Station) : List Byte :=
  beBytes 1 (bitsNat [st.record.zValid, st.gap.lastCal.isSome]) ++
  optBytes 2 (if st.record.zValid then some st.record.z else none) ++ beBytes 2 st.record.r ++
  beBytes 4 st.record.mCal ++ beBytes 3 st.gap.w ++ beBytes 3 st.record.limits.wMax ++ beBytes 1 (bitsNat [st.capped]) ++
  beBytes 2 st.record.calNumber ++ beBytes 1 st.record.history.length ++ slots 8 20 histBytes st.record.history ++
  optRecord 13 lastCalBytes st.gap.lastCal

/-! ## Lot, device and attention records -/

/-- A lot record, 19 bytes. -/
def lotBytes (r : LotRecord) : List Byte :=
  beBytes 1 r.station.val ++ beBytes 2 r.number ++ beBytes 4 r.mass ++ [closeReasonCode r.reason] ++
  beBytes 1 (bitsNat [r.target.isSome, r.step.isSome, r.meanPower.isSome]) ++ optBytes 4 r.target ++ optBytes 1 r.step ++
  optBytes 2 r.meanPower ++ beBytes 3 r.w

/-- READ LOT's record, 20 bytes: a count and the oldest lot record, or zeros (R150). -/
def readLotRecord (q : List LotRecord) : List Byte :=
  match q with
  | [] => zeroBytes 20
  | r :: _ => 0x01#8 :: lotBytes r

/-- The device record of READ DEVICE (R177), 9 bytes. -/
def readDeviceRecord (s : State) : List Byte :=
  beBytes 1 s.link.addr ++ [if s.link.fast then 0x02#8 else 0x01#8] ++ beBytes 2 s.link.errors ++
  [writerCode s.writer, s.pendingWrites] ++ beBytes 1 (bitsNat [s.pins.key]) ++ beBytes 1 s.lotQueue.length ++
  [s.device.presence]

/-- READ ATTENTION's record: the raised sources and the set masks, five bytes each (R180). -/
def readAttentionRecord (s : State) : List Byte := beBytes 5 s.raised.toNat ++ beBytes 5 s.masks.toNat

end Sys2Proof.Machine
end

