-- ==== Sys2Proof/Machine/Requests.lean ====
section
/-!
DEFINITION. The taking of a request and its reply (R172, R173): the answer a block gives, the reply frame formed from it (13.1), and the
station and enumeration tests of R172.
-/

namespace Sys2Proof.Machine

/-- What a request is answered with: a result code, and the reply record of its kind where it carries one (R173). -/
structure Answer where
  code : ResultCode
  record : List Byte
deriving DecidableEq, Repr

/-- An answer of a result code alone. -/
def answer (c : ResultCode) : Answer := { code := c, record := [] }

/-- The reply frame (13.1): start byte, 80h plus the address, the kind repeated, the length, the result code and record, the CRC. -/
def replyFrame (addr : Nat) (kind : Byte) (a : Answer) : List Byte :=
  let payload := a.code.byte :: a.record
  let body := [BitVec.ofNat 8 (128 + addr), kind, BitVec.ofNat 8 payload.length] ++ payload
  0xA5#8 :: body ++ crcBytes body

/-- The receiver enters REPLY at the taking, with the reply formed (R173). -/
def State.reply (s : State) (kind : Byte) (a : Answer) : State :=
  { s with link := { s.link with
      rx := .reply, frame := [], reply := replyFrame s.link.addr kind a, takenAt := s.clock, driving := none,
      intruder := none } }

/-- The receiver listens on after a sound frame that gets no reply (R169, R170). -/
def State.listen (s : State) : State := { s with link := { s.link with rx := .listen, frame := [] } }

/-- The receiver hears frames: it is in LISTEN, or in RECEIVE with the frame that completes (R167). -/
def Link.hears (l : Link) : Bool := l.rx == .listen || l.rx == .receive

/-- An addressed request is taken `dt` ticks after the step before and answered (R172, R173). The command stands for its whole frame, which
a receiver in RESYNC or REPLY does not take (R167, R174; assumption log 7), and a device whose latched address is 0 is reached by no addressed
frame (R166). -/
def State.answered (s : State) (dt : Ticks) (kind : Byte) (f : State → State × Answer) : State :=
  (s.elapse dt).whenRunning fun s =>
    if s.link.hears = true ∧ s.link.addr ≠ 0 then
      let r := f s
      r.1.reply kind r.2
    else s

/-- A request from a broadcast frame acts and gets no reply; the receiver stays in LISTEN (R170). -/
def State.broadcast (s : State) (dt : Ticks) (f : State → State × Answer) : State :=
  (s.elapse dt).whenRunning fun s => if s.link.hears then (f s).1.listen else s

/-- The station test of R172 for a kind that names one station. -/
def onNamed (s : State) (st : Nat) (f : StationId → State × Answer) : State × Answer :=
  if h : st < 4 then
    if s.present ⟨st, h⟩ then f ⟨st, h⟩ else (s, answer .absentStation)
  else (s, answer .badStation)

/-- CLAMPED where a value was brought into its range, else the given code (R49). -/
def clampedOr (clamped : Bool) (c : ResultCode) : Answer := answer (if clamped then .clamped else c)

end Sys2Proof.Machine
end

