-- ==== Sys2Proof/Machine/GapRequests.lean ====
section
/-!
DEFINITION. The gap requests (3.5, 3.6, 4.6, 6.8): SET GAP, CANCEL GAP, SUSPEND MOVE, RESUME MOVE, CALIBRATE, CHANGE LINERS, TUNE GAP and
SET LIMITS, each with the meaning of its row.
-/

namespace Sys2Proof.Machine

/-! ## SET GAP (R50 to R53) -/

/-- A move record retargeted by a REPLACE, a target fix point (R52, R53, R75): a SETTING move of the host's with its counts at 0; phase,
dwell and pending suspend are the caller's. -/
def retargeted (st : Station) (target tag : Nat) (m : Move) : Move :=
  let f := fixPoint st.record.limits st.record.gapTuning.k st.record.z st.gap.w target
  { m with
    kind := .setting, origin := some .link, tag := some tag, eff := some f.eff, pt := some f.pt,
    strokeClamped := f.strokeClamped, dir := none, pBefore := none, pulses := 0, noProgress := 0, loadWaited := 0 }

/-- The move in flight is retargeted: in MOVING it returns to SETTLE, in SUSPENDED it stays parked (R52). -/
def State.retargetMove (s : State) (i : StationId) (target tag : Nat) : State :=
  (s.leavePhase i).modSt i fun st =>
    { st with gap := { st.gap with move := st.gap.move.map fun m =>
        let m' := retargeted st target tag m
        if st.gap.state = .moving then { m' with phase := settleFrom s.clock st.record.gapTuning } else m' } }

/-- The context is retargeted; its suspended flag is kept (R53). -/
def State.retargetContext (s : State) (i : StationId) (target tag : Nat) : State :=
  s.modSt i fun st =>
    { st with gap := { st.gap with context := st.gap.context.map fun c =>
        { c with move := retargeted st target tag c.move } } }

/-- The LINK entry a SET GAP forms now (R42). -/
def linkEntry (st : Station) (target tag : Nat) : SettingEntry :=
  formEntry st.record.limits target .link (some tag) none

/-- SET GAP with mode APPEND at a station (R50, R51). -/
def State.setGapAppend (s : State) (i : StationId) (target tag : Nat) : State × Answer :=
  let st := s.st i
  let e := linkEntry st target tag
  match st.gap.state with
  | .isolated => (s, answer .isolated)
  | .faulted => (s, answer .faulted)
  | _ =>
    if !st.record.zValid then (s, answer .noZero)
    else if 4 ≤ st.gap.queue.length then (s, answer .queueFull)
    else ((s.enqueue i e).settleFeed i, clampedOr e.clamped .accepted)

/-- SET GAP with mode REPLACE at a station (R50, R52, R53): the queue is emptied, and the move or the context retargeted, or the sole
entry placed; the space event comes last. -/
def State.setGapReplace (s : State) (i : StationId) (target tag : Nat) : State × Answer :=
  let st := s.st i
  let e := linkEntry st target tag
  let had := s.hasEntries i
  let s1 := s.emptyQueue i
  match st.gap.state with
  | .isolated => (s, answer .isolated)
  | .faulted => (s, answer .faulted)
  | g =>
    if !st.record.zValid then (s, answer .noZero)
    else
      let s2 :=
        if g = .moving ∨ g = .suspended then s1.retargetMove i target tag
        else if st.gap.context.isSome then s1.retargetContext i target tag
        else s1.enqueue i e
      ((s2.spaceIf had i).settleFeed i, clampedOr e.clamped .accepted)

/-- SET GAP after the station test: mode 01h APPEND, 02h REPLACE (13.4, R192). -/
def reqSetGap (st mode target tag : Nat) (s : State) : State × Answer :=
  onNamed s st fun i =>
    match mode with
    | 1 => s.setGapAppend i target tag
    | 2 => s.setGapReplace i target tag
    | _ => (s, answer .badValue)

/-- SET_GAP_APPEND. -/
def execSetGapAppend (dt : Ticks) (st target tag : Nat) (s : State) : Host.Outcome State Fault Refusal :=
  .next (s.answered dt 0x01#8 (reqSetGap st 1 target tag))

/-- SET_GAP_REPLACE. -/
def execSetGapReplace (dt : Ticks) (st target tag : Nat) (s : State) : Host.Outcome State Fault Refusal :=
  .next (s.answered dt 0x01#8 (reqSetGap st 2 target tag))

/-! ## CANCEL GAP (R54, R55) -/

/-- Whether CANCEL ACTIVE finds a move or a context (R55). -/
def GapChannel.cancellable (g : GapChannel) : Bool :=
  match g.state with
  | .moving => true
  | .suspended => true
  | .relieved => g.context.isSome
  | .restoring => g.context.isSome
  | _ => false

/-- The work of CANCEL ACTIVE: the move ends CANCELLED and the station goes to IDLE, or the context is dropped (R55). -/
def State.cancelWork (s : State) (i : StationId) : State :=
  let g := (s.st i).gap
  if g.state = .moving ∨ g.state = .suspended then (s.endMove i .cancelled).toRest i
  else s.dropContext i .cancelled

/-- CANCEL GAP with scope PENDING (R54). -/
def State.cancelPending (s : State) (i : StationId) : State × Answer :=
  if s.hasEntries i then (((s.emptyQueue i).spaceEvent i).settleFeed i, answer .done)
  else (s, answer .ignored)

/-- CANCEL GAP with scope ACTIVE (R55). -/
def State.cancelActive (s : State) (i : StationId) : State × Answer :=
  if (s.st i).gap.cancellable then ((s.cancelWork i).settleFeed i, answer .done) else (s, answer .ignored)

/-- CANCEL GAP with scope ALL: the queue first, then the move; the space event last (R43, R55). -/
def State.cancelAll (s : State) (i : StationId) : State × Answer :=
  let had := s.hasEntries i
  let acts := (s.st i).gap.cancellable
  let s1 := s.emptyQueue i
  let s2 := if acts then s1.cancelWork i else s1
  if had || acts then ((s2.spaceIf had i).settleFeed i, answer .done) else (s, answer .ignored)

/-- CANCEL GAP after the station test: scope 01h PENDING, 02h ACTIVE, 03h ALL. -/
def reqCancelGap (st scope : Nat) (s : State) : State × Answer :=
  onNamed s st fun i =>
    match scope with
    | 1 => s.cancelPending i
    | 2 => s.cancelActive i
    | 3 => s.cancelAll i
    | _ => (s, answer .badValue)

/-- CANCEL_GAP_PENDING. -/
def execCancelGapPending (dt : Ticks) (st : Nat) (s : State) : Host.Outcome State Fault Refusal :=
  .next (s.answered dt 0x02#8 (reqCancelGap st 1))

/-- CANCEL_GAP_ACTIVE. -/
def execCancelGapActive (dt : Ticks) (st : Nat) (s : State) : Host.Outcome State Fault Refusal :=
  .next (s.answered dt 0x02#8 (reqCancelGap st 2))

/-- CANCEL_GAP_ALL. -/
def execCancelGapAll (dt : Ticks) (st : Nat) (s : State) : Host.Outcome State Fault Refusal :=
  .next (s.answered dt 0x02#8 (reqCancelGap st 3))

/-! ## SUSPEND MOVE and RESUME MOVE (R76, R78) -/

/-- SUSPEND MOVE (R76): in MOVING it suspends the move, or defers while the resume dwell runs; elsewhere, or where one is pending, it is
IGNORED. -/
def reqSuspendMove (st : Nat) (s : State) : State × Answer :=
  onNamed s st fun i =>
    match (s.st i).gap.state, (s.st i).gap.move with
    | .moving, some m =>
      if m.pendingSuspend then (s, answer .ignored)
      else if m.dwell.isNone then ((s.suspendNow i).settleFeed i, answer .done)
      else (s.modMove i fun m => { m with pendingSuspend := true }, answer .done)
    | _, _ => (s, answer .ignored)

/-- The move resumed from SUSPENDED, a target fix point (R75, R78): pulses and the no-progress run are kept, the dwell starts. -/
def resumedMove (st : Station) (now : Ticks) (m : Move) : Move :=
  let f := fixPoint st.record.limits st.record.gapTuning.k st.record.z st.gap.w (m.eff.getD 0)
  let dwell := st.record.gapTuning.resumeDwell
  { m with
    eff := some f.eff, pt := some f.pt, strokeClamped := f.strokeClamped, dir := none, pBefore := none,
    loadWaited := 0, phase := settleFrom now st.record.gapTuning, pendingSuspend := false,
    dwell := if dwell = 0 then none else some (now + msTicks dwell) }

/-- RESUME MOVE (R78): it resumes a suspended move, clears a pending suspend, or clears a context's suspended flag. -/
def reqResumeMove (st : Nat) (s : State) : State × Answer :=
  onNamed s st fun i =>
    let stn := s.st i
    match stn.gap.state with
    | .suspended =>
      let old := (stn.gap.move.bind Move.eff).getD 0
      ((s.modSt i fun x =>
          { x with gap := { x.gap with state := .moving, move := x.gap.move.map (resumedMove x s.clock) } }).settleFeed
          i,
        clampedOr (effectiveTarget stn.record.limits old != old) .done)
    | .moving =>
      if ((stn.gap.move.map Move.pendingSuspend).getD false) = true then
        (s.modMove i fun m => { m with pendingSuspend := false }, answer .done)
      else (s, answer .ignored)
    | g =>
      if (g = .relieved ∨ g = .restoring) ∧ (stn.gap.context.map Context.suspended).getD false = true then
        (s.modGap i fun x => { x with context := x.context.map fun c => { c with suspended := false } },
          answer .done)
      else (s, answer .ignored)

/-- SUSPEND_MOVE. -/
def execSuspendMove (dt : Ticks) (st : Nat) (s : State) : Host.Outcome State Fault Refusal :=
  .next (s.answered dt 0x03#8 (reqSuspendMove st))

/-- RESUME_MOVE. -/
def execResumeMove (dt : Ticks) (st : Nat) (s : State) : Host.Outcome State Fault Refusal :=
  .next (s.answered dt 0x04#8 (reqResumeMove st))

/-! ## CALIBRATE and CHANGE LINERS (R56, R57, R116) -/

/-- The calibration record at acceptance, in DRAIN (R103, R104). -/
def calibrationBegun (st : Station) (now : Ticks) (pStart : Nat) : Calibration :=
  { phase := .drain, pStart := pStart, hadZero := st.record.zValid,
    drainTimer := some (now + secTicks st.record.gapTuning.drainTimeout), quietTimer := none, seekPulses := 0,
    zNew := none }

/-- CALIBRATE (R56, R103, R104): taken in IDLE and UNREFERENCED with a position in use. -/
def reqCalibrate (st : Nat) (s : State) : State × Answer :=
  onNamed s st fun i =>
    let stn := s.st i
    match stn.posInUse with
    | some p =>
      if stn.gap.state = .idle ∨ stn.gap.state = .unreferenced then
        let s1 := s.modGap i fun g =>
          { g with state := .calibrating, calibration := some (calibrationBegun stn s.clock p) }
        ((s1.drainEval i).settleFeed i, answer .accepted)
      else (s, answer .wrongState)
    | none => (s, answer .wrongState)

/-- The station record after CHANGE LINERS (R116 steps 1 to 3). -/
def recordNewLiners (rec : StationRecord) : StationRecord :=
  { rec with zValid := false, mCal := 0, r := rec.gapTuning.r0, history := [] }

/-- CHANGE LINERS (R57, R116): taken in IDLE and UNREFERENCED with the feeder output rate at 0. -/
def reqChangeLiners (st : Nat) (s : State) : State × Answer :=
  onNamed s st fun i =>
    let stn := s.st i
    if (stn.gap.state = .idle ∨ stn.gap.state = .unreferenced) ∧ stn.feed.output = 0 then
      let s1 := (s.modRecord i recordNewLiners).modGap i fun g =>
        { g with state := .unreferenced, queue := [], standing := none, trimInhibit := false }
      (((s1.recomputeWear i stn.capped).stopSchedule i).requestWrite i, answer .done)
    else (s, answer .wrongState)

/-- CALIBRATE. -/
def execCalibrate (dt : Ticks) (st : Nat) (s : State) : Host.Outcome State Fault Refusal :=
  .next (s.answered dt 0x05#8 (reqCalibrate st))

/-- CHANGE_LINERS. -/
def execChangeLiners (dt : Ticks) (st : Nat) (s : State) : Host.Outcome State Fault Refusal :=
  .next (s.answered dt 0x06#8 (reqChangeLiners st))

/-! ## TUNE GAP and SET LIMITS (R58, R60) -/

/-- TUNE GAP (R58): taken in IDLE, UNREFERENCED, ISOLATED and FAULTED. -/
def reqTuneGap (st : Nat) (v : GapTuning) (s : State) : State × Answer :=
  onNamed s st fun i =>
    let g := (s.st i).gap.state
    if g = .idle ∨ g = .unreferenced ∨ g = .isolated ∨ g = .faulted then
      let t := gapTuningTaken v
      (s.modRecord i fun rec => { rec with gapTuning := t }, clampedOr (t != v) .done)
    else (s, answer .wrongState)

/-- SET LIMITS (R60, R61): LOCKED without KEY, BAD_VALUE where a pair is reversed as carried, else taken in every state; Wmax acts on W
at once and the trim-inhibit flag is cleared. -/
def reqSetLimits (st : Nat) (v : Limits) (s : State) : State × Answer :=
  onNamed s st fun i =>
    if !s.pins.key then (s, answer .locked)
    else if v.cssMax < v.cssMin ∨ v.pMax < v.pMin then (s, answer .badValue)
    else
      let l := limitsTaken v
      let was := (s.st i).capped
      let s1 := (s.modRecord i fun rec => { rec with limits := l }).modGap i fun g => { g with trimInhibit := false }
      (s1.recomputeWear i was, clampedOr (l != v) .done)

/-- The KEY pin as read at a request (R60, R177). -/
def State.setKey (s : State) (key : Bool) : State := { s with pins := { s.pins with key := key } }

/-- TUNE_GAP. -/
def execTuneGap (dt : Ticks) (st : Nat) (v : GapTuning) (s : State) : Host.Outcome State Fault Refusal :=
  .next (s.answered dt 0x07#8 (reqTuneGap st v))

/-- SET_LIMITS. -/
def execSetLimits (dt : Ticks) (st : Nat) (v : Limits) (key : Bool) (s : State) : Host.Outcome State Fault Refusal :=
  .next ((s.setKey key).answered dt 0x08#8 (reqSetLimits st v))

end Sys2Proof.Machine
end

