-- ==== Sys2Proof/Machine/Feed.lean ====
section
/-!
DEFINITION. The feed regulator's own work (chapter 7): SET FEED, the control interval with its power reasons and its step, the chain timer,
TUNE FEED with the chain test, and the feeder waveform, with the meanings of their rows.
-/

namespace Sys2Proof.Machine

/-! ## SET FEED (R117, R118) -/

/-- A feed mode byte (13.4). -/
def feedModeOf (n : Nat) : Option FeedMode :=
  match n with
  | 0 => some .stop
  | 1 => some .manual
  | 2 => some .auto
  | _ => none

/-- The feed mode becomes STOP (R118, third row): the output rate 0 at once, the demand rate_min. HALT does this whatever the mode before
(R140, R161 step 5). -/
def feedHalted (now : Ticks) (t : FeedTuning) (f : FeedRegulator) : FeedRegulator :=
  { setOutput now t f 0 with mode := .stop, demand := t.rateMin }

/-- SET FEED to STOP (R118, first and third rows): in STOP already, nothing changes. -/
def feedModeStop (now : Ticks) (t : FeedTuning) (f : FeedRegulator) : FeedRegulator :=
  if f.mode = .stop then f else feedHalted now t f

/-- The regulator leaves STOP for MANUAL or AUTO: a restart, whose output rate stays 0 under a stop reason (R118, second row). -/
def feedModeStart (now : Ticks) (t : FeedTuning) (f : FeedRegulator) (m : FeedMode) : FeedRegulator :=
  let g := { f with mode := m, demand := t.rateMin, prevError := none }
  if f.stops.any then g else setOutput now t g t.rateMin

/-- A SET FEED that is taken changes the regulator by the mode before and the mode named (R118). -/
def feedSet (now : Ticks) (t : FeedTuning) (f : FeedRegulator) (m : FeedMode) (rate : Nat) : FeedRegulator :=
  let g := { f with manualRate := min 1000 rate }
  if m = .stop then feedModeStop now t g
  else if f.mode = .stop then feedModeStart now t g m
  else if f.mode = m then g
  else { g with mode := m, prevError := none }

/-- SET FEED at one station, with its output event (R118, R119). -/
def State.setFeedAt (m : FeedMode) (rate : Nat) (s : State) (i : StationId) : State :=
  (s.modSt i fun st => { st with feed := feedSet s.clock st.record.feedTuning st.feed m rate }).chainSettle

/-- The stations present now, in ascending order. -/
def State.presentStations (s : State) : List StationId := stationsInOrder.filter s.present

/-- The station test of R172 for the kinds that also take station 255, every present station. -/
def onNamedOrAll (s : State) (st : Nat) (f : List StationId → State × Answer) : State × Answer :=
  if st = 255 then f s.presentStations else onNamed s st fun i => f [i]

/-- SET FEED (R117). -/
def reqSetFeed (st mode rate : Nat) (s : State) : State × Answer :=
  onNamedOrAll s st fun is =>
    match feedModeOf mode with
    | some m => (s.eachOf is (State.setFeedAt m rate), clampedOr (decide (1000 < rate)) .done)
    | none => (s, answer .badValue)

/-- SET_FEED: addressed, or from a broadcast frame. -/
def execSetFeed (dt : Ticks) (bcast : Bool) (st mode rate : Nat) (s : State) : Host.Outcome State Fault Refusal :=
  .next (if bcast then s.broadcast dt (reqSetFeed st mode rate) else s.answered dt 0x09#8 (reqSetFeed st mode rate))

/-! ## The control interval (R123 to R130) -/

/-- The stop reasons the power reading gives at an interval (R129, R130). -/
def powerStops (t : FeedTuning) (trip power : Nat) (x : StopSet) : StopSet :=
  { x with
    notRunning := decide (power < t.runPower)
    overload := decide (trip < power) || (x.overload && decide (t.powerLimit < power)) }

/-- Step 1 of R124, with the restart of the control interval timer (R123). -/
def powerReasons (now : Ticks) (st : Station) : Station :=
  let t := st.record.feedTuning
  let power := st.power.reading
  let f := setStops now t st.feed (powerStops t st.record.limits.powerTrip power st.feed.stops)
  let timer := some (now + msTicks t.controlInterval)
  { st with feed := { f with powerHigh := decide (t.powerLimit < power), controlTimer := timer } }

/-- The period for the unchanged output rate, computed afresh after a TUNE FEED: pending where it differs from the period in
progress (R138). -/
def repend (t : FeedTuning) (f : FeedRegulator) : FeedRegulator :=
  match f.wave with
  | none => f
  | some w =>
    let p := feederPeriod t f.output
    { f with wave := some { w with pending := if p = w.period then none else some p } }

/-- Step 3 of R124: where TUNE FEED has been accepted since the last interval, the downstream set is applied and evaluated (R133),
and the feeder period recomputed. -/
def State.applyTuned (s : State) (i : StationId) : State :=
  if (s.st i).feed.tuned then
    let s1 := s.modSt i fun st =>
      { st with feed := { st.feed with downstream := st.record.feedTuning.downstream, tuned := false } }
    (s1.chainEval i).modSt i fun st => { st with feed := repend st.record.feedTuning st.feed }
  else s

/-- The AUTO step with a level (R125). -/
def autoStep (t : FeedTuning) (level : Nat) (f : FeedRegulator) : FeedRegulator :=
  let e : Int := (t.targetLevel : Int) - level
  let delta := reasonedChange t f.gapMove (f.gapLoadWait || f.powerHigh) (autoChange t e (f.prevError.getD e))
  { f with demand := changedDemand t f.demand delta, prevError := some e }

/-- The MANUAL step (R126). -/
def manualStep (t : FeedTuning) (f : FeedRegulator) : FeedRegulator :=
  let setpoint := clampTo t.rateMin t.rateMax f.manualRate
  let delta := clampInt (-(t.slew : Int)) t.slew ((setpoint : Int) - f.demand)
  { f with demand := changedDemand t f.demand (reasonedChange t f.gapMove (f.gapLoadWait || f.powerHigh) delta) }

/-- The blind step (R127). -/
def blindStep (t : FeedTuning) (f : FeedRegulator) : FeedRegulator :=
  { f with demand := blindDemand t f.demand (f.gapLoadWait || f.powerHigh) }

/-- The control step by feed mode and level reading (R124 step 4). -/
def controlStep (t : FeedTuning) (level : Option Nat) (f : FeedRegulator) : FeedRegulator :=
  match f.mode, level with
  | .stop, _ => f
  | .manual, _ => manualStep t f
  | .auto, some l => autoStep t l f
  | .auto, none => blindStep t f

/-- Steps 4 and 5 of R124 at a regulator whose stop set was empty throughout: the step, and the output rate taking the demand. -/
def stepTaken (now : Ticks) (st : Station) : Station :=
  let t := st.record.feedTuning
  let f := controlStep t st.levelReading st.feed
  { st with feed := if f.mode = .stop then f else setOutput now t f f.demand }

/-- The work of a control interval in the order of R124. A regulator whose stop set was non-empty at the expiry takes no step: it is still
stopped, or this interval restarted it (R121, R124; assumption log 9). -/
def State.controlInterval (s : State) (i : StationId) : State :=
  let stopped := (s.st i).feed.stops.any
  let s1 := (s.modSt i (powerReasons s.clock)).chainSettle
  let s2 := s1.modSt i fun st => { st with lots := lotSample st.power.reading st.power.fresh st.lots }
  let s3 := s2.applyTuned i
  if stopped || (s3.st i).feed.stops.any then s3.chainSettle
  else (s3.modSt i (stepTaken s.clock)).chainSettle

/-- CONTROL_INTERVAL (R123, R124). -/
def execControlInterval (i : StationId) (s : State) : Host.Outcome State Fault Refusal :=
  .next (s.onStation i fun s => s.atExpiry (s.st i).feed.controlTimer fun s => s.controlInterval i)

/-! ## The chain timer (R132) -/

/-- CHAIN_TIMER_EXPIRY (R132): DOWNSTREAM is posted. -/
def execChainTimerExpiry (i : StationId) (s : State) : Host.Outcome State Fault Refusal :=
  .next (s.onStation i fun s =>
    s.atExpiry (s.st i).feed.chainTimer fun s =>
      ((s.modFeed i fun f => { f with chainTimer := none }).modStops i fun x =>
        { x with downstream := true }).chainSettle)

/-! ## TUNE FEED (R134 to R136) -/

/-- The stations reached in one step from a set by downstream sets. -/
def chainNext (d : StationId → StationSet) (b : StationSet) : StationSet :=
  stationsInOrder.foldl (fun acc j => if setHas b j then acc ||| d j else acc) 0#8

/-- The stations reached from station `i` by following downstream sets, in one to four steps. -/
def chainReach (d : StationId → StationSet) (i : StationId) : StationSet :=
  let r1 := d i
  let r2 := r1 ||| chainNext d r1
  let r3 := r2 ||| chainNext d r2
  r3 ||| chainNext d r3

/-- Some station reaches itself by following downstream sets from station to station (R135). -/
def chainCycle (d : StationId → StationSet) : Bool := stationsInOrder.any fun i => setHas (chainReach d i) i

/-- The downstream sets held at the request, those of absent stations too, with the carried set at station `i` (R135). -/
def State.downstreamWith (s : State) (i : StationId) (b : StationSet) (j : StationId) : StationSet :=
  if j = i then b else (s.st j).record.feedTuning.downstream

/-- The regulator takes accepted feed tuning (R134): the demand is clamped into the new range, and the output rate follows where the
station is not stopped. -/
def tuneTaken (now : Ticks) (t : FeedTuning) (f : FeedRegulator) : FeedRegulator :=
  let g := { f with demand := clampTo t.rateMin t.rateMax f.demand, tuned := true }
  if f.mode = .stop ∨ f.stops.any = true then g else setOutput now t g g.demand

/-- TUNE FEED (R134, R135). -/
def reqTuneFeed (st : Nat) (v : FeedTuning) (s : State) : State × Answer :=
  onNamed s st fun i =>
    if v.downstream &&& 0xF0#8 != 0#8 then (s, answer .badValue)
    else if chainCycle (s.downstreamWith i v.downstream) then (s, answer .badChain)
    else
      let t := feedTuningTaken v
      let s1 := s.modSt i fun x =>
        { x with record := { x.record with feedTuning := t }, feed := tuneTaken s.clock t x.feed }
      (s1.chainSettle, clampedOr (t != v) .done)

/-- TUNE_FEED. -/
def execTuneFeed (dt : Ticks) (st : Nat) (v : FeedTuning) (s : State) : Host.Outcome State Fault Refusal :=
  .next (s.answered dt 0x0A#8 (reqTuneFeed st v))

/-! ## The waveform (R137, R138) -/

/-- The end of the high half, while it is in progress. -/
def FeedRegulator.halfTimer (f : FeedRegulator) : Option Ticks :=
  f.wave.bind fun w => if w.high then some w.halfEnds else none

/-- The end of the period, while its low half is in progress. -/
def FeedRegulator.periodTimer (f : FeedRegulator) : Option Ticks :=
  f.wave.bind fun w => if w.high then none else some w.halfEnds

/-- The low half begins: FEED OUT goes inactive for the period less the high time (R137, R138). -/
def waveLow (now : Ticks) (w : Wave) : Wave :=
  { w with high := false, halfEnds := now + usTicks (w.period - w.period / 2) }

/-- The next period begins with its high half: the pending period's, or the same again (R138). -/
def waveNext (now : Ticks) (w : Wave) : Wave := waveBegin now (w.pending.getD w.period)

/-- FEED_HALF_END. -/
def execFeedHalfEnd (i : StationId) (s : State) : Host.Outcome State Fault Refusal :=
  .next (s.onStation i fun s =>
    s.atExpiry (s.st i).feed.halfTimer fun s => s.modFeed i fun f => { f with wave := f.wave.map (waveLow s.clock) })

/-- FEED_PERIOD_END. -/
def execFeedPeriodEnd (i : StationId) (s : State) : Host.Outcome State Fault Refusal :=
  .next (s.onStation i fun s =>
    s.atExpiry (s.st i).feed.periodTimer fun s => s.modFeed i fun f => { f with wave := f.wave.map (waveNext s.clock) })

end Sys2Proof.Machine
end

