-- ==== Sys2Proof/Machine/Lots.lean ====
section
/-!
DEFINITION. The rows of lots and schedules (chapter 8): the lean timer, LOAD SCHEDULE, RUN SCHEDULE and READ LOT. The lot accumulator is in
Machine/LotOps.lean and the advance of a schedule in Machine/GapOps.lean.
-/

namespace Sys2Proof.Machine

/-- LEAN_TIMER_EXPIRY (R144): the open lot closes SHORT. -/
def execLeanTimerExpiry (i : StationId) (s : State) : Host.Outcome State Fault Refusal :=
  .next (s.onStation i fun s => s.atExpiry (s.st i).lots.leanTimer fun s => s.closeLot i .short)

/-! ## LOAD SCHEDULE (R151) -/

/-- LOAD SCHEDULE (R151): taken in EMPTY, LOADED and ENDED, with one to eight steps. Where both refusals hold, no step or more than eight in
RUNNING or HELD, R151 states no order of the two tests: BAD_VALUE is answered (DESIGN CHOICE, unsafe, assumption log 39). -/
def reqLoadSchedule (st : Nat) (steps : List ScheduleStep) (s : State) : State × Answer :=
  onNamed s st fun i =>
    let c := (s.st i).sched
    if steps = [] ∨ 8 < steps.length then (s, answer .badValue)
    else if c.state = .running ∨ c.state = .held then (s, answer .wrongState)
    else
      let taken := steps.map scheduleStepTaken
      (s.modSched i fun c => { c with state := .loaded, steps := taken, index := 0, pending := false },
        clampedOr (taken != steps) .done)

/-- LOAD_SCHEDULE. -/
def execLoadSchedule (dt : Ticks) (st : Nat) (steps : List ScheduleStep) (s : State) :
    Host.Outcome State Fault Refusal :=
  .next (s.answered dt 0x0B#8 (reqLoadSchedule st steps))

/-! ## RUN SCHEDULE (R152, R153, R155) -/

/-- An advance mode byte (13.4). -/
def advanceModeOf (n : Nat) : Option AdvanceMode :=
  match n with
  | 1 => some .auto
  | 2 => some .manual
  | _ => none

/-- A flag byte (13.4, R192). -/
def flagOf (n : Nat) : Option Bool :=
  match n with
  | 0 => some false
  | 1 => some true
  | _ => none

/-- RUN SCHEDULE START at a station (R152). -/
def State.scheduleStart (s : State) (i : StationId) (mode : AdvanceMode) (cyclic : Bool) : State × Answer :=
  let st := s.st i
  if st.sched.state = .loaded ∨ st.sched.state = .ended then
    match st.gap.state with
    | .unreferenced => (s, answer .noZero)
    | .relieved => (s, answer .wrongState)
    | .restoring => (s, answer .wrongState)
    | .calibrating => (s, answer .wrongState)
    | .isolated => (s, answer .wrongState)
    | .faulted => (s, answer .wrongState)
    | _ =>
      let s1 := s.modSched i fun c =>
        { c with state := .running, index := 0, mode := mode, cyclic := cyclic, pending := false }
      ((s1.scheduleEnqueue i).settleFeed i, clampedOr (s1.st i).stepClamped .accepted)
  else (s, answer .wrongState)

/-- RUN SCHEDULE STOP at a station (R155): the index is kept. -/
def State.scheduleStop (s : State) (i : StationId) : State × Answer :=
  let c := (s.st i).sched
  if c.state = .running ∨ c.state = .held then
    (s.modSched i fun c => { c with state := .loaded, pending := false }, answer .done)
  else (s, answer .ignored)

/-- The answer to an ADVANCE, from the schedule it leaves: DONE where it ended, CLAMPED where the entry formed was clamped, ACCEPTED
otherwise (R153). -/
def advanceAnswer (st : Station) : Answer :=
  let c := st.sched
  if c.index + 1 < c.steps.length then
    clampedOr (Station.stepClamped { st with sched := { c with index := c.index + 1 } }) .accepted
  else if c.cyclic then clampedOr (Station.stepClamped { st with sched := { c with index := 0 } }) .accepted
  else answer .done

/-- RUN SCHEDULE ADVANCE at a station (R153): taken in RUNNING with mode MANUAL. -/
def State.scheduleAdvanceReq (s : State) (i : StationId) : State × Answer :=
  let st := s.st i
  if st.sched.state = .running ∧ st.sched.mode = .manual then
    ((s.scheduleAdvance i).settleFeed i, advanceAnswer st)
  else (s, answer .wrongState)

/-- RUN SCHEDULE after the station test: action 01h START, 02h STOP, 03h ADVANCE; the advance mode and the cyclic flag are tested with
every action (10.6, R192). -/
def reqRunSchedule (st action mode cyclic : Nat) (s : State) : State × Answer :=
  onNamed s st fun i =>
    match action, advanceModeOf mode, flagOf cyclic with
    | 1, some m, some c => s.scheduleStart i m c
    | 2, some _, some _ => s.scheduleStop i
    | 3, some _, some _ => s.scheduleAdvanceReq i
    | _, _, _ => (s, answer .badValue)

/-- RUN_SCHEDULE_START. -/
def execRunScheduleStart (dt : Ticks) (st mode cyclic : Nat) (s : State) : Host.Outcome State Fault Refusal :=
  .next (s.answered dt 0x0C#8 (reqRunSchedule st 1 mode cyclic))

/-- RUN_SCHEDULE_STOP. -/
def execRunScheduleStop (dt : Ticks) (st mode cyclic : Nat) (s : State) : Host.Outcome State Fault Refusal :=
  .next (s.answered dt 0x0C#8 (reqRunSchedule st 2 mode cyclic))

/-- RUN_SCHEDULE_ADVANCE. -/
def execRunScheduleAdvance (dt : Ticks) (st mode cyclic : Nat) (s : State) : Host.Outcome State Fault Refusal :=
  .next (s.answered dt 0x0C#8 (reqRunSchedule st 3 mode cyclic))

/-! ## READ LOT (R150) -/

/-- READ LOT (R150): the oldest record is carried and removed. -/
def reqReadLot (s : State) : State × Answer :=
  ({ s with lotQueue := s.lotQueue.tail }, { code := .done, record := readLotRecord s.lotQueue })

/-- READ_LOT. -/
def execReadLot (dt : Ticks) (s : State) : Host.Outcome State Fault Refusal :=
  .next (s.answered dt 0x0D#8 reqReadLot)

end Sys2Proof.Machine
end

