-- ==== Sys2Proof/Machine/Service.lean ====
section
/-!
DEFINITION. Isolation, dry run, the test tramp, halt, station reset and the clearing of faults (chapter 9), with the meanings of their rows.
-/

namespace Sys2Proof.Machine

/-! ## ISOLATE (R156, R157) -/

/-- ISOLATE with operand on, in a state that takes it (R156): the schedule, then the queue, then a move with result ISOLATED. The space event
of the emptying finds the schedule stopped. -/
def State.isolateTaken (s : State) (i : StationId) : State :=
  let g := (s.st i).gap.state
  let s1 := (s.stopSchedule i).emptyQueue i
  let s2 := if g = .moving ∨ g = .suspended then s1.endMove i .isolated else s1
  (s2.modGap i fun g => { g with state := .isolated }).settleFeed i

/-- ISOLATE on (R156). -/
def State.isolateOn (s : State) (i : StationId) : State × Answer :=
  match (s.st i).gap.state with
  | .isolated => (s, answer .ignored)
  | .relieved => (s, answer .wrongState)
  | .restoring => (s, answer .wrongState)
  | .calibrating => (s, answer .wrongState)
  | .faulted => (s, answer .wrongState)
  | _ => (s.isolateTaken i, answer .done)

/-- RELEASE ISOLATE (R157): to FAULTED with cause POSITION_LOST where the position is not valid and dry run is off, else to IDLE or
UNREFERENCED. -/
def State.isolateOff (s : State) (i : StationId) : State × Answer :=
  let st := s.st i
  if st.gap.state = .isolated then
    let s1 := if !st.gap.dryRun && !st.pos.valid then s.enterFaulted i .positionLost else s.toRest i
    (s1.settleFeed i, answer .done)
  else (s, answer .ignored)

/-- ISOLATE after the station test: on/off as 01h, 00h. -/
def reqIsolate (st onOff : Nat) (s : State) : State × Answer :=
  onNamed s st fun i =>
    match flagOf onOff with
    | some true => s.isolateOn i
    | some false => s.isolateOff i
    | none => (s, answer .badValue)

/-- ISOLATE. -/
def execIsolate (dt : Ticks) (st : Nat) (s : State) : Host.Outcome State Fault Refusal :=
  .next (s.answered dt 0x0E#8 (reqIsolate st 1))

/-- RELEASE_ISOLATE. -/
def execReleaseIsolate (dt : Ticks) (st : Nat) (s : State) : Host.Outcome State Fault Refusal :=
  .next (s.answered dt 0x0E#8 (reqIsolate st 0))

/-! ## DRY RUN (R158) -/

/-- DRY RUN on (R158): the simulated position starts at the position in use. -/
def State.dryRunOn (s : State) (i : StationId) : State × Answer :=
  let st := s.st i
  if st.gap.state = .idle ∨ st.gap.state = .unreferenced then
    if st.gap.dryRun then (s, answer .ignored)
    else
      match st.posInUse with
      | none => (s, answer .wrongState)
      | some p => ((s.modGap i fun g => { g with dryRun := true, sim := some p }).settleFeed i, answer .done)
  else (s, answer .wrongState)

/-- A station whose dry run is turned off (R158): a test is abandoned without a clearance, the invalid-sample run is 0 (R4) and the tramp
filter is inactive (R17). The simulated position stays until the next sample completion. -/
def dryRunCleared (st : Station) : Station :=
  { st with
    pos := { st.pos with run := 0 }
    tramp := trampFilterFresh
    gap := { st.gap with dryRun := false, testTimer := none, simTramp := false } }

/-- DRY RUN off (R158). -/
def State.dryRunOff (s : State) (i : StationId) : State × Answer :=
  let st := s.st i
  if st.gap.state = .idle ∨ st.gap.state = .unreferenced then
    if st.gap.dryRun then ((s.modSt i dryRunCleared).settleFeed i, answer .done) else (s, answer .ignored)
  else (s, answer .wrongState)

/-- DRY RUN after the station test. -/
def reqDryRun (st onOff : Nat) (s : State) : State × Answer :=
  onNamed s st fun i =>
    match flagOf onOff with
    | some true => s.dryRunOn i
    | some false => s.dryRunOff i
    | none => (s, answer .badValue)

/-- DRY_RUN_ON. -/
def execDryRunOn (dt : Ticks) (st : Nat) (s : State) : Host.Outcome State Fault Refusal :=
  .next (s.answered dt 0x0F#8 (reqDryRun st 1))

/-- DRY_RUN_OFF. -/
def execDryRunOff (dt : Ticks) (st : Nat) (s : State) : Host.Outcome State Fault Refusal :=
  .next (s.answered dt 0x0F#8 (reqDryRun st 0))

/-! ## TEST TRAMP (R160) -/

/-- A test begins (R160): the simulated input is active, an onset is taken, then the simulated position is lowered and the test's timer
starts. -/
def State.testBegun (s : State) (i : StationId) (duration : Nat) : State :=
  let s1 := (s.modGap i fun g => { g with simTramp := true }).onset i
  (s1.modSt i fun st =>
    { st with gap := { st.gap with
        sim := st.gap.sim.map fun p => p - st.record.gapTuning.reliefDisp
        testTimer := some (s.clock + msTicks duration) } }).settleFeed i

/-- TEST TRAMP (R160). -/
def reqTestTramp (st duration : Nat) (s : State) : State × Answer :=
  onNamed s st fun i =>
    let g := (s.st i).gap
    if !g.dryRun then (s, answer .wrongState)
    else if g.testTimer.isSome then (s, answer .busy)
    else
      let d := clampTo 100 10000 duration
      (s.testBegun i d, clampedOr (d != duration) .done)

/-- TEST_TRAMP. -/
def execTestTramp (dt : Ticks) (st duration : Nat) (s : State) : Host.Outcome State Fault Refusal :=
  .next (s.answered dt 0x10#8 (reqTestTramp st duration))

/-! ## HALT (R161, R162) -/

/-- Step 6 of HALT (R162). -/
def State.haltWork (s : State) (i : StationId) : State :=
  match (s.st i).gap.state with
  | .idle => s
  | .unreferenced => s
  | .moving => (s.endMove i .halted).toRest i
  | .suspended => (s.endMove i .halted).toRest i
  | .calibrating => (s.endCalibration i .aborted).toRest i
  | .relieved => (s.modGap i fun g => { g with noRestore := true }).dropContext i .halted
  | .restoring =>
    ((((s.leavePhase i).modGap i fun g => { g with move := none }).dropContext i .halted).discardRelief i).toRest i
  | .isolated => s
  | .faulted => s

/-- HALT at one station, in the order of R161. -/
def State.haltAt (s : State) (i : StationId) : State :=
  let s1 := ((s.closeLot i .cut).stopSchedule i).emptyQueue i
  let s2 := s1.modGap i fun g => { g with standing := none, trimInhibit := false }
  let s3 := s2.modSt i fun st => { st with feed := feedHalted s.clock st.record.feedTuning st.feed }
  (s3.haltWork i).settleFeed i

/-- A station of a list has an open lot. -/
def State.openLots (s : State) (is : List StationId) : Nat :=
  (is.filter fun i => (s.st i).lots.lot.isSome).length

/-- The order in which one event works through several stations. Where two or more open lots would close at the same moment, "Records of
different stations that close at the same moment join in either order" (R149): the order is a free value (assumption log 8). -/
def State.turns (s : State) (is : List StationId) : State × List StationId :=
  if s.openLots is ≤ 1 then (s, is)
  else
    let order := stationOrders.getD (Config.turnOrder s.freeCount % 24) stationsInOrder
    ({ s with freeCount := s.freeCount + 1 }, order.filter fun i => is.contains i)

/-- HALT (R161). -/
def reqHalt (st : Nat) (s : State) : State × Answer :=
  onNamedOrAll s st fun is =>
    let r := s.turns is
    (r.1.eachOf r.2 State.haltAt, answer .done)

/-- HALT: addressed, or from a broadcast frame. -/
def execHalt (dt : Ticks) (bcast : Bool) (st : Nat) (s : State) : Host.Outcome State Fault Refusal :=
  .next (if bcast then s.broadcast dt (reqHalt st) else s.answered dt 0x11#8 (reqHalt st))

/-! ## RESET STATION (R163) -/

/-- The gap channel after RESET STATION, before it enters IDLE or UNREFERENCED: the power-on values with W kept (R163 steps 3 and 4). -/
def gapReset (st : Station) : GapChannel := { gapChannelFresh st.record with w := st.gap.w }

/-- The regulator after RESET STATION (R140): the control interval timer runs on; the chain timer is stopped. The downstream set in force and
a TUNE FEED not yet applied stand, as tuning is kept. -/
def feedReset (st : Station) : FeedRegulator :=
  { feedRegulatorFresh st.record.feedTuning with
    controlTimer := st.feed.controlTimer, downstream := st.feed.downstream, tuned := st.feed.tuned }

/-- The level channel at RESET STATION: a lost timer is started afresh (R20). -/
def levelReset (now : Ticks) (st : Station) : LevelChannel :=
  if st.level.lost then
    { st.level with lostTimer := some (now + secTicks st.record.feedTuning.levelLostTimeout) }
  else st.level

/-- The blocks of a station at RESET STATION, steps 2 to 7 of R163. -/
def stationReset (now : Ticks) (st : Station) : Station :=
  { st with
    gap := gapReset st, feed := feedReset st, lots := lotAccumulatorFresh, sched := scheduleFresh
    pos := { st.pos with run := 0 }, level := levelReset now st, tramp := trampFilterFresh }

/-- The eight sources of a station (R191). -/
def stationSources (i : StationId) : BitVec 36 := 0xFF#36 <<< (8 * i.val)

/-- RESET STATION at a station (R163). -/
def State.resetAt (s : State) (i : StationId) : State :=
  let s1 := (s.closeLot i .cut).modSt i (stationReset s.clock)
  (({ s1 with raised := s1.raised &&& ~~~stationSources i }).toRest i).settleFeed i

/-- RESET STATION (R163). -/
def reqResetStation (st : Nat) (s : State) : State × Answer := onNamed s st fun i => (s.resetAt i, answer .done)

/-- RESET_STATION. -/
def execResetStation (dt : Ticks) (st : Nat) (s : State) : Host.Outcome State Fault Refusal :=
  .next (s.answered dt 0x12#8 (reqResetStation st))

/-! ## CLEAR FAULT (R165) -/

/-- The accepted tramp level that CLEAR FAULT tests: the simulated input's with dry run on (R160, R165). -/
def Station.trampAccepted (st : Station) : Bool := if st.gap.dryRun then st.gap.simTramp else st.tramp.level

/-- The held cause is gone (R165). -/
def Station.causeGone (st : Station) : Bool :=
  match st.gap.cause with
  | some .positionLost => st.pos.valid
  | some .trampRepeat => !st.trampAccepted
  | some .restoreStalled => true
  | none => true

/-- CLEAR FAULT (R165). -/
def reqClearFault (st : Nat) (s : State) : State × Answer :=
  onNamed s st fun i =>
    let stn := s.st i
    if stn.gap.state = .faulted then
      if stn.causeGone then
        (((s.modGap i fun g => { g with onsets := [], cause := none }).toRest i).settleFeed i, answer .done)
      else (s, answer .wrongState)
    else (s, answer .ignored)

/-- CLEAR_FAULT. -/
def execClearFault (dt : Ticks) (st : Nat) (s : State) : Host.Outcome State Fault Refusal :=
  .next (s.answered dt 0x13#8 (reqClearFault st))

end Sys2Proof.Machine
end

