-- ==== Sys2Proof/Machine/HostRequests.lean ====
section
/-!
DEFINITION. The reading requests (R175 to R177), the attention requests (R180, R181), STORE with the completion of a write (R185, R186), and
CONFIGURE DEVICE (R189, R190), with the meanings of their rows.
-/

namespace Sys2Proof.Machine

/-! ## Reading (R175 to R177, R180) -/

/-- READ STATION (R175). -/
def reqReadStation (st : Nat) (s : State) : State × Answer :=
  onNamed s st fun i => (s, { code := .done, record := stationStatus s.clock (s.st i) })

/-- READ WEAR (R176). -/
def reqReadWear (st : Nat) (s : State) : State × Answer :=
  onNamed s st fun i => (s, { code := .done, record := wearRecord (s.st i) })

/-- READ DEVICE (R177). -/
def reqReadDevice (s : State) : State × Answer := (s, { code := .done, record := readDeviceRecord s })

/-- READ ATTENTION (R180). -/
def reqReadAttention (s : State) : State × Answer := (s, { code := .done, record := readAttentionRecord s })

/-- READ_STATION. -/
def execReadStation (dt : Ticks) (st : Nat) (s : State) : Host.Outcome State Fault Refusal :=
  .next (s.answered dt 0x14#8 (reqReadStation st))

/-- READ_WEAR. -/
def execReadWear (dt : Ticks) (st : Nat) (s : State) : Host.Outcome State Fault Refusal :=
  .next (s.answered dt 0x15#8 (reqReadWear st))

/-- READ_DEVICE: KEY is read at the taking (R177). -/
def execReadDevice (dt : Ticks) (key : Bool) (s : State) : Host.Outcome State Fault Refusal :=
  .next ((s.setKey key).answered dt 0x16#8 reqReadDevice)

/-- READ_ATTENTION. -/
def execReadAttention (dt : Ticks) (s : State) : Host.Outcome State Fault Refusal :=
  .next (s.answered dt 0x17#8 reqReadAttention)

/-! ## Attention (R180, R181, R192) -/

/-- The set that a list of source numbers names; a number named twice counts once (R192). -/
def sourceSet (xs : List Nat) : BitVec 36 := xs.foldl (fun b n => b ||| sourceBit n) 0#36

/-- The tests of R172 for a list of sources: a count above 36 is BAD_LENGTH, a number above 35 BAD_VALUE (R192). -/
def onSources (s : State) (xs : List Nat) (f : BitVec 36 → State × Answer) : State × Answer :=
  if 36 < xs.length then (s, answer .badLength)
  else if xs.any fun n => decide (35 < n) then (s, answer .badValue)
  else f (sourceSet xs)

/-- CLEAR ATTENTION (R180). -/
def reqClearAttention (xs : List Nat) (s : State) : State × Answer :=
  onSources s xs fun b =>
    if s.raised &&& b = 0#36 then (s, answer .ignored)
    else ({ s with raised := s.raised &&& ~~~b }, answer .done)

/-- MASK ATTENTION (R181): action 01h set, 02h clear. The length test comes before the test of the action. -/
def reqMaskAttention (action : Nat) (xs : List Nat) (s : State) : State × Answer :=
  onSources s xs fun b =>
    match action with
    | 1 => ({ s with masks := s.masks ||| b }, answer .done)
    | 2 => ({ s with masks := s.masks &&& ~~~b }, answer .done)
    | _ => (s, answer .badValue)

/-- RAISE ATTENTION (R181). -/
def reqRaiseAttention (xs : List Nat) (s : State) : State × Answer :=
  onSources s xs fun b => ({ s with raised := s.raised ||| b }, answer .done)

/-- CLEAR_ATTENTION. -/
def execClearAttention (dt : Ticks) (sources : List Nat) (s : State) : Host.Outcome State Fault Refusal :=
  .next (s.answered dt 0x18#8 (reqClearAttention sources))

/-- MASK_ATTENTION_SET. -/
def execMaskAttentionSet (dt : Ticks) (sources : List Nat) (s : State) : Host.Outcome State Fault Refusal :=
  .next (s.answered dt 0x19#8 (reqMaskAttention 1 sources))

/-- MASK_ATTENTION_CLEAR. -/
def execMaskAttentionClear (dt : Ticks) (sources : List Nat) (s : State) : Host.Outcome State Fault Refusal :=
  .next (s.answered dt 0x19#8 (reqMaskAttention 2 sources))

/-- RAISE_ATTENTION. -/
def execRaiseAttention (dt : Ticks) (sources : List Nat) (s : State) : Host.Outcome State Fault Refusal :=
  .next (s.answered dt 0x1A#8 (reqRaiseAttention sources))

/-! ## STORE (R185, R186) -/

/-- The set of the present stations. -/
def State.presentSet (s : State) : StationSet := setOf s.present

/-- STORE (R185): with the writer IDLE the sequence is formed, its stations leave the pending set, and the first write begins. -/
def reqStore (s : State) : State × Answer :=
  match s.writer with
  | .idle =>
    ({ s.beginDeviceWrite with
        storeSeq := s.presentStations, inSequence := true, pendingWrites := s.pendingWrites &&& ~~~s.presentSet },
      answer .accepted)
  | _ => (s, answer .busy)

/-- STORE. -/
def execStore (dt : Ticks) (s : State) : Host.Outcome State Fault Refusal := .next (s.answered dt 0x1B#8 reqStore)

/-- The writer goes on after a completed write (R185, R186): the next record of the sequence; at its end STORE DONE; then the pending
set. -/
def State.nextWrite (s : State) : State :=
  match s.inSequence, s.storeSeq with
  | true, i :: rest => { (s.beginStationWrite i) with storeSeq := rest }
  | true, [] => (s.raiseDevice .storeDone).servePending
  | false, _ => s.servePending

/-- The time a write in progress began. -/
def Writer.since (w : Writer) : Option Ticks :=
  match w with
  | .idle => none
  | .device _ t => some t
  | .station _ _ t => some t

/-- STORE_WRITE_COMPLETE (R184 to R186): the write completes `wait` ticks after it began, at most 120 ms. -/
def execStoreWriteComplete (wait : Ticks) (s : State) : Host.Outcome State Fault Refusal :=
  .next (s.whenRunning fun s =>
    s.atExpiry (s.writer.since.map fun t => t + min wait (msTicks 120)) fun s =>
      { s with store := finishWrite s.writer s.store }.nextWrite)

/-! ## CONFIGURE DEVICE (R189, R190) -/

/-- A filter clock byte (13.4). -/
def filterClockOf (n : Nat) : Option FilterClock :=
  match n with
  | 1 => some .khz1
  | 2 => some .hz250
  | _ => none

/-- A panel set byte (13.4). -/
def panelSetOf (n : Nat) : Option PanelSet :=
  match n with
  | 1 => some .normal
  | 2 => some .attention
  | _ => none

/-- A station with no state but its record, its lot numbering with the mass counter and dropped-lot count, and its schedule; its blocks hold
the power-on values (R18, R139, R190). -/
def stationCleared (st : Station) : Station :=
  { stationFresh st.record with lots := { st.lots with lot := none, leanTimer := none }, sched := st.sched }

/-- A station is made absent (R190): the open lot closes CUT, the schedule is stopped, and every block is dropped. -/
def State.makeAbsent (s : State) (i : StationId) : State :=
  ((s.closeLot i .cut).stopSchedule i).modSt i stationCleared

/-- A station that enters service: IDLE or UNREFERENCED by its held zero reference, its next interrogation and trigger on the grids of R18,
and its control interval timer started (R123, R190). The queue and the standing target are absent, so IDLE activates nothing. -/
def stationEntered (now epoch : Ticks) (st : Station) : Station :=
  let timer := some (now + msTicks st.record.feedTuning.controlInterval)
  { st with
    gap := { st.gap with state := if st.record.zValid then .idle else .unreferenced }
    feed := { st.feed with controlTimer := timer }
    pos := { st.pos with nextAt := gridCeil epoch (msTicks 5) now }
    level := { st.level with nextAt := gridCeil epoch (msTicks 100) now } }

/-- A station is made present (R190). -/
def State.makePresent (s : State) (i : StationId) : State :=
  s.modSt i fun st => stationEntered s.clock s.epoch (stationCleared st)

/-- A filter after a change of the filter clock: runs and counts 0, accepted levels kept (R13). -/
def filtersRestarted (st : Station) : Station :=
  let scale := match st.scale with
    | .undefined last _ => .undefined last 0
    | .defined level _ => .defined level 0
  { st with scale := scale, tramp := { st.tramp with run := 0 } }

/-- The filter clock changes: its first tick falls one period of the new clock after the acceptance (R13). -/
def State.filterClockChanged (s : State) : State :=
  { s with filterBase := s.clock, filterLast := s.clock, stations := s.stations.map filtersRestarted }

/-- The device record taken from CONFIGURE DEVICE (R189). -/
def deviceRecordTaken (v : DeviceValues) (f : FilterClock) (p : PanelSet) : DeviceRecord :=
  { presence := v.presence, filterClock := f, leanTime := v.leanTime, lotSize := v.lotSize, checkpoint := v.checkpoint,
    panelSet := p }

/-- CONFIGURE DEVICE accepted (R189, R190): stations made absent, the new values, the filter clock, stations made present, and the downstream
conditions that the presence bears on (R132). -/
def State.configured (s : State) (d : DeviceRecord) : State :=
  let leaving := stationsInOrder.filter fun i => s.present i && !setHas d.presence i
  let entering := stationsInOrder.filter fun i => !s.present i && setHas d.presence i
  let r := s.turns leaving
  let s1 := { r.1.eachOf r.2 State.makeAbsent with device := d }
  let s2 := if d.filterClock = s.device.filterClock then s1 else s1.filterClockChanged
  (s2.eachOf entering State.makePresent).chainSettle

/-- CONFIGURE DEVICE (R189, R192). -/
def reqConfigureDevice (v : DeviceValues) (s : State) : State × Answer :=
  if v.presence &&& 0xF0#8 != 0#8 then (s, answer .badValue)
  else
    match filterClockOf v.filterClock, panelSetOf v.panelSet with
    | some f, some p =>
      let t := deviceValuesTaken v
      (s.configured (deviceRecordTaken t f p), clampedOr (t != v) .done)
    | _, _ => (s, answer .badValue)

/-- CONFIGURE_DEVICE. -/
def execConfigureDevice (dt : Ticks) (v : DeviceValues) (s : State) : Host.Outcome State Fault Refusal :=
  .next (s.answered dt 0x1C#8 (reqConfigureDevice v))

end Sys2Proof.Machine
end

