-- ==== Sys2Proof/Machine/Supply.lean ====
section
/-!
DEFINITION. Supply, the reset input and start-up (R19, R187, R188), and the panel output (R182), with the meanings of their rows.
-/

namespace Sys2Proof.Machine

/-! ## Supply and reset -/

/-- The link at a loss of supply, at power-on and under the reset input: nothing is received or sent (R166, R174). The latched address and
bit rate stay until start-up latches them again (R166; assumption log 29). -/
def Link.silenced (l : Link) : Link := { linkFresh with addr := l.addr, fast := l.fast }

/-- Every block takes its power-on values and a write in progress is cut (R19, R187). The clock, the model's own counter, the pins, the
latched address and rate and the commands waiting stand. -/
def State.restarted (s : State) (phase : Phase) : State :=
  { State.powerOn s.clock s.freeCount s.pending s.pins phase (cutWrite s.writer s.store) with link := s.link.silenced }

/-- The RESET pin. -/
def State.setReset (s : State) (active : Bool) : State := { s with pins := { s.pins with reset := active } }

/-- POWER_ON (R188): start-up begins, or the reset input holds the device. -/
def execPowerOn (dt : Ticks) (s : State) : Host.Outcome State Fault Refusal :=
  .next ((s.elapse dt).restarted (if s.pins.reset then .reset else .startUp))

/-- SUPPLY_LOSS (R187). -/
def execSupplyLoss (dt : Ticks) (s : State) : Host.Outcome State Fault Refusal :=
  .next ((s.elapse dt).restarted .off)

/-- RESET_INPUT (R19, R174, R187). -/
def execResetInput (dt : Ticks) (s : State) : Host.Outcome State Fault Refusal :=
  .next (((s.elapse dt).setReset true).restarted (if s.phase = .off then .off else .reset))

/-- RESET_RELEASE (R188): start-up begins where the reset input held the device. -/
def execResetRelease (dt : Ticks) (s : State) : Host.Outcome State Fault Refusal :=
  let s1 := (s.elapse dt).setReset false
  .next (if s.phase = .reset then { s1 with phase := .startUp } else s1)

/-! ## The end of start-up (R188) -/

/-- The stations over the records read: the values of a valid record, the defaults for an invalid one (R188 step 3). -/
def stationsLoaded (x : Store) : Quad Station :=
  x.stations.map fun r => stationFresh ((r.read StationRecord.bytes).getD stationRecordDefault)

/-- STORE LOST for each station whose record is invalid (R188 steps 3 and 4). -/
def storeLostSet (x : Store) : BitVec 36 :=
  stationsInOrder.foldl
    (fun b i => if (x.station i).isNone then b ||| sourceBit (stationSourceNumber i .storeLost) else b) 0#36

/-- The device at the end of start-up, before its stations enter service (R166, R182, R188). -/
def State.startedUp (s : State) (addr : BitVec 5) (rate : Bool) : State :=
  { State.powerOn s.clock s.freeCount s.pending { s.pins with addr := addr, rate := rate } .running s.store with
    device := s.store.deviceRecord.getD deviceRecordDefault
    stations := stationsLoaded s.store
    raised := storeLostSet s.store ||| sourceBit (deviceSourceNumber .powerOn)
    link := { linkFresh with addr := addr.toNat, fast := rate, lastChar := s.clock }
    panel := { panelFresh with startedAt := s.clock } }

/-- The end of start-up (R188 step 4): each present station enters service, and the downstream conditions are evaluated (R132). -/
def State.startUpEnd (s : State) (addr : BitVec 5) (rate : Bool) : State :=
  let s1 := s.startedUp addr rate
  (s1.eachOf s1.presentStations fun x i => x.modSt i (stationEntered x.clock x.epoch)).chainSettle

/-- START_UP_END (R188). -/
def execStartUpEnd (dt : Ticks) (addr : BitVec 5) (rate : Bool) (s : State) : Host.Outcome State Fault Refusal :=
  let s1 := s.elapse dt
  .next (if s.phase = .startUp then s1.startUpEnd addr rate else s1)

/-! ## The panel (R182) -/

/-- The time the next frame is due: the end of start-up for the first, 2.4 ms after the start of the last for the others (R182). -/
def Panel.frameDue (p : Panel) : Ticks :=
  match p.index with
  | none => p.startedAt
  | some _ => p.startedAt + usTicks 2400

/-- PANEL_FRAME (R182, R183): at the next frame start every value of the frame is taken. -/
def execPanelFrame (s : State) : Host.Outcome State Fault Refusal :=
  .next (s.whenRunning fun s =>
    let s := s.reach (gridCeil s.panel.startedAt (usTicks 2400) (max s.clock s.panel.frameDue))
    { s with panel := { bits := s.frameBits, index := some 0, startedAt := s.clock } })

/-- PANEL_BIT (R182): the next bit of the frame begins. The first bit of a frame is PANEL_FRAME's. -/
def execPanelBit (s : State) : Host.Outcome State Fault Refusal :=
  .next (s.whenRunning fun s =>
    match s.panel.index with
    | none => s
    | some k =>
      if k < 23 then
        let s := s.reach (s.panel.startedAt + usTicks (100 * (k + 1)))
        { s with panel := { s.panel with index := some (k + 1) } }
      else s)

end Sys2Proof.Machine
end

