-- ==== Sys2Proof/WellFormed.lean ====
section
/-!
DEFINITION. Well-formed commands: the operands that the spec's layouts and timings can carry (13.2, 13.3 for requests; R13, R173, R184, R192
for the rest). `exec` gives every command an effect, well-formed or not; statements about the link's requests need the widths alone.
-/

namespace Sys2Proof

/-- A one-byte operand. -/
def byteOk (n : Nat) : Bool := decide (n < 256)

/-- A two-byte operand. -/
def wordOk (n : Nat) : Bool := decide (n < 65536)

/-- A four-byte operand. -/
def longOk (n : Nat) : Bool := decide (n < 4294967296)

/-- TUNE GAP's values fit the widths of 13.3. -/
def GapTuning.fits (v : GapTuning) : Bool :=
  [v.d, v.pulseGain, v.pulseLimit, v.reliefHold, v.trampLimit].all byteOk &&
    [v.k, v.tMin, v.tMax, v.settle, v.closePower, v.loadWait, v.trimThreshold, v.resumeDwell, v.trampWindow, v.calPulse,
      v.calPulseLimit, v.emptyLevel, v.idlePower, v.drainTimeout, v.r0, v.w0, v.travelRate, v.simContact,
      v.reliefDisp].all wordOk

/-- TUNE FEED's values fit the widths of 13.3. -/
def FeedTuning.fits (v : FeedTuning) : Bool :=
  [v.slew, v.scaleMass].all byteOk && [v.fLo, v.fHi].all longOk &&
    [v.targetLevel, v.hMount, v.kp, v.ki, v.rateMin, v.rateMax, v.blindRate, v.levelLostTimeout, v.controlInterval,
      v.powerLimit, v.runPower, v.ep, v.chainDelay].all wordOk

/-- SET LIMITS' values fit the widths of 13.2. -/
def Limits.fits (v : Limits) : Bool :=
  [v.cssMin, v.cssMax, v.wMax].all longOk && [v.pMin, v.pMax, v.powerTrip].all wordOk

/-- CONFIGURE DEVICE's values fit the widths of 13.2. -/
def DeviceValues.fits (v : DeviceValues) : Bool :=
  [v.filterClock, v.panelSet].all byteOk && wordOk v.leanTime && [v.lotSize, v.checkpoint].all longOk

/-- A LOAD SCHEDULE list fits a payload of 200 bytes, and its numbers their four bytes (R168, 13.2). -/
def stepsFit (steps : List ScheduleStep) : Bool :=
  decide (steps.length ≤ 24) && steps.all fun p => longOk p.target && longOk p.lotSize

/-- A list of source numbers of one byte each fits a payload (13.2). -/
def sourcesFit (xs : List Nat) : Bool := decide (xs.length ≤ 198) && xs.all byteOk

/-- The samples of a tick: every filter of every station once (R13); those of absent stations are disregarded. -/
def samplesFit (xs : List FilterSample) : Bool :=
  decide (xs.length = 8) && decide ((xs.map fun x => (x.station, x.input)).Nodup)

/-- A kind code that names no request (R192). -/
def kindUnassigned (kind : Byte) : Bool := kind == 0x00#8 || decide (0x1C < kind.toNat)

/-- The command's operands are ones the spec's layouts and timings can carry. -/
def Instr.wellFormed (i : Instr) : Bool :=
  match i with
  | .powerOn _ => true
  | .supplyLoss _ => true
  | .resetInput _ => true
  | .resetRelease _ => true
  | .startUpEnd _ _ _ => true
  | .positionInterrogation _ => true
  | .posReturnLeadingEdge _ _ => true
  | .posReturnTrailingEdge _ _ => true
  | .noReturnTimeout _ => true
  | .widthTooLong _ => true
  | .echoTrigger _ => true
  | .echoRisingEdge _ _ => true
  | .echoWindowExpiry _ => true
  | .levelLostTimeout _ => true
  | .powerPulse _ _ => true
  | .staleExpiry _ => true
  | .scaleFilterDefined _ _ _ => true
  | .scalePulse _ _ => true
  | .scaleInactiveTransition _ _ => true
  | .trampOnset _ _ => true
  | .trampClearance _ _ => true
  | .trampListAgeing _ => true
  | .reliefHoldExpiry _ => true
  | .settleExpiry _ => true
  | .pulseTimerExpiry _ => true
  | .loadWaitExpiry _ => true
  | .resumeDwellExpiry _ => true
  | .quietTimerExpiry _ => true
  | .drainTimeoutExpiry _ => true
  | .seekSettleExpiry _ => true
  | .testTrampExpiry _ => true
  | .controlInterval _ => true
  | .chainTimerExpiry _ => true
  | .feedHalfEnd _ => true
  | .feedPeriodEnd _ => true
  | .leanTimerExpiry _ => true
  | .storeWriteComplete wait => decide (wait ≤ 4800000)
  | .panelFrame => true
  | .frameDiscard _ _ => true
  | .interCharacterTimeout => true
  | .resyncSilence => true
  | .frameForOtherDevice _ => true
  | .frameBegunDuringReply _ => true
  | .unknownKind _ kind => kindUnassigned kind
  | .replyStart wait => decide (20000 ≤ wait) && decide (wait ≤ 400000)
  | .replyComplete => true
  | .setGapAppend _ st target tag => byteOk st && longOk target && byteOk tag
  | .setGapReplace _ st target tag => byteOk st && longOk target && byteOk tag
  | .cancelGapPending _ st => byteOk st
  | .cancelGapActive _ st => byteOk st
  | .cancelGapAll _ st => byteOk st
  | .suspendMove _ st => byteOk st
  | .resumeMove _ st => byteOk st
  | .calibrate _ st => byteOk st
  | .changeLiners _ st => byteOk st
  | .tuneGap _ st v => byteOk st && v.fits
  | .setLimits _ st v _ => byteOk st && v.fits
  | .setFeed _ _ st mode rate => byteOk st && byteOk mode && wordOk rate
  | .tuneFeed _ st v => byteOk st && v.fits
  | .loadSchedule _ st steps => byteOk st && stepsFit steps
  | .runScheduleStart _ st mode cyclic => byteOk st && byteOk mode && byteOk cyclic
  | .runScheduleStop _ st mode cyclic => byteOk st && byteOk mode && byteOk cyclic
  | .runScheduleAdvance _ st mode cyclic => byteOk st && byteOk mode && byteOk cyclic
  | .readLot _ => true
  | .isolate _ st => byteOk st
  | .releaseIsolate _ st => byteOk st
  | .dryRunOn _ st => byteOk st
  | .dryRunOff _ st => byteOk st
  | .testTramp _ st duration => byteOk st && wordOk duration
  | .halt _ _ st => byteOk st
  | .resetStation _ st => byteOk st
  | .clearFault _ st => byteOk st
  | .readStation _ st => byteOk st
  | .readWear _ st => byteOk st
  | .readDevice _ _ => true
  | .readAttention _ => true
  | .clearAttention _ sources => sourcesFit sources
  | .maskAttentionSet _ sources => sourcesFit sources
  | .maskAttentionClear _ sources => sourcesFit sources
  | .raiseAttention _ sources => sourcesFit sources
  | .store _ => true
  | .configureDevice _ v => v.fits
  | .filterClockTick samples => samplesFit samples
  | .characterReceived _ _ _ _ => true
  | .panelBit => true

end Sys2Proof
end

