-- ==== Sys2Proof/Machine/Link.lean ====
section
/-!
DEFINITION. The message link (chapter 10): the receiver with its silences and gaps (R167, R168), the CRC and the address test (R169, R170), the
reading of a request's payload (13.2, 13.3) and its hand-over to the block that owns it (R172), the reply on the line (R173, R174), and
the meanings of the link's rows.
-/

namespace Sys2Proof.Machine

/-! ## Requests from payloads (13.2, 13.3, R172) -/

/-- The numbers that a payload spells, given the widths of its fields. -/
def splitFields : List Nat → List Byte → List Nat
  | [], _ => []
  | w :: ws, p => fromBytes (p.take w) :: splitFields ws (p.drop w)

/-- The widths of TUNE GAP's values (13.3). -/
def gapTuningWidths : List Nat :=
  [2, 1, 1, 2, 2, 2, 1, 2, 2, 2, 2, 1] ++ [2, 1, 2, 2, 2, 2, 2, 2, 2, 2, 2, 2]

/-- The gap tuning values of a payload, after its station byte (13.3). -/
def gapTuningOf (p : List Byte) : GapTuning :=
  let v := splitFields gapTuningWidths p
  { k := v.getD 0 0, d := v.getD 1 0, pulseGain := v.getD 2 0, tMin := v.getD 3 0, tMax := v.getD 4 0,
    settle := v.getD 5 0, pulseLimit := v.getD 6 0, closePower := v.getD 7 0, loadWait := v.getD 8 0,
    trimThreshold := v.getD 9 0, resumeDwell := v.getD 10 0, reliefHold := v.getD 11 0, trampWindow := v.getD 12 0,
    trampLimit := v.getD 13 0, calPulse := v.getD 14 0, calPulseLimit := v.getD 15 0, emptyLevel := v.getD 16 0,
    idlePower := v.getD 17 0, drainTimeout := v.getD 18 0, r0 := v.getD 19 0, w0 := v.getD 20 0,
    travelRate := v.getD 21 0, simContact := v.getD 22 0, reliefDisp := v.getD 23 0 }

/-- The widths of TUNE FEED's values (13.3). -/
def feedTuningWidths : List Nat := [2, 2, 2, 2, 1, 2, 2, 2, 2] ++ [2, 2, 2, 2, 4, 4, 1, 1, 2]

/-- The feed tuning values of a payload, after its station byte (13.3). -/
def feedTuningOf (p : List Byte) : FeedTuning :=
  let v := splitFields feedTuningWidths p
  { targetLevel := v.getD 0 0, hMount := v.getD 1 0, kp := v.getD 2 0, ki := v.getD 3 0, slew := v.getD 4 0,
    rateMin := v.getD 5 0, rateMax := v.getD 6 0, blindRate := v.getD 7 0, levelLostTimeout := v.getD 8 0,
    controlInterval := v.getD 9 0, powerLimit := v.getD 10 0, runPower := v.getD 11 0, ep := v.getD 12 0,
    fLo := v.getD 13 0, fHi := v.getD 14 0, scaleMass := v.getD 15 0, downstream := BitVec.ofNat 8 (v.getD 16 0),
    chainDelay := v.getD 17 0 }

/-- The limits of a SET LIMITS payload, after its station byte (13.2). -/
def limitsOf (p : List Byte) : Limits :=
  let v := splitFields [4, 4, 2, 2, 4, 2] p
  { cssMin := v.getD 0 0, cssMax := v.getD 1 0, pMin := v.getD 2 0, pMax := v.getD 3 0, wMax := v.getD 4 0,
    powerTrip := v.getD 5 0 }

/-- The device values of a CONFIGURE DEVICE payload (13.2). -/
def deviceValuesOf (p : List Byte) : DeviceValues :=
  let v := splitFields [1, 1, 2, 4, 4, 1] p
  { presence := BitVec.ofNat 8 (v.getD 0 0), filterClock := v.getD 1 0, leanTime := v.getD 2 0, lotSize := v.getD 3 0,
    checkpoint := v.getD 4 0, panelSet := v.getD 5 0 }

/-- The steps of a LOAD SCHEDULE payload, after its count (13.2). -/
def stepsOf : Nat → List Byte → List ScheduleStep
  | 0, _ => []
  | n + 1, p =>
    { target := fromBytes (p.take 4), lotSize := fromBytes ((p.drop 4).take 4) } :: stepsOf n (p.drop 8)

/-- The bytes of a list of source numbers. -/
def sourcesOf (p : List Byte) : List Nat := p.map BitVec.toNat

/-- The length test of R172. -/
def onLength (n : Nat) (p : List Byte) (f : State → State × Answer) (s : State) : State × Answer :=
  if p.length = n then f s else (s, answer .badLength)

/-- A request from the kind and payload of a sound frame: the kind test, the length test, and the hand-over to the block that owns it
(R172; 13.2). The station and enumeration tests are the block functions' own. -/
def request (kind : Byte) (p : List Byte) : State → State × Answer :=
  let b := fun k => (p.getD k 0#8).toNat
  match kind.toNat with
  | 0x01 => onLength 7 p (reqSetGap (b 0) (b 1) (fromBytes ((p.drop 2).take 4)) (b 6))
  | 0x02 => onLength 2 p (reqCancelGap (b 0) (b 1))
  | 0x03 => onLength 1 p (reqSuspendMove (b 0))
  | 0x04 => onLength 1 p (reqResumeMove (b 0))
  | 0x05 => onLength 1 p (reqCalibrate (b 0))
  | 0x06 => onLength 1 p (reqChangeLiners (b 0))
  | 0x07 => onLength 44 p (reqTuneGap (b 0) (gapTuningOf (p.drop 1)))
  | 0x08 => onLength 19 p (reqSetLimits (b 0) (limitsOf (p.drop 1)))
  | 0x09 => onLength 4 p (reqSetFeed (b 0) (b 1) (fromBytes (p.drop 2)))
  | 0x0A => onLength 38 p (reqTuneFeed (b 0) (feedTuningOf (p.drop 1)))
  | 0x0B => onLength (2 + 8 * b 1) p (reqLoadSchedule (b 0) (stepsOf (b 1) (p.drop 2)))
  | 0x0C => onLength 4 p (reqRunSchedule (b 0) (b 1) (b 2) (b 3))
  | 0x0D => onLength 0 p reqReadLot
  | 0x0E => onLength 2 p (reqIsolate (b 0) (b 1))
  | 0x0F => onLength 2 p (reqDryRun (b 0) (b 1))
  | 0x10 => onLength 3 p (reqTestTramp (b 0) (fromBytes (p.drop 1)))
  | 0x11 => onLength 1 p (reqHalt (b 0))
  | 0x12 => onLength 1 p (reqResetStation (b 0))
  | 0x13 => onLength 1 p (reqClearFault (b 0))
  | 0x14 => onLength 1 p (reqReadStation (b 0))
  | 0x15 => onLength 1 p (reqReadWear (b 0))
  | 0x16 => onLength 0 p reqReadDevice
  | 0x17 => onLength 0 p reqReadAttention
  | 0x18 => onLength (1 + b 0) p (reqClearAttention (sourcesOf (p.drop 1)))
  | 0x19 => onLength (2 + b 1) p (reqMaskAttention (b 0) (sourcesOf (p.drop 2)))
  | 0x1A => onLength (1 + b 0) p (reqRaiseAttention (sourcesOf (p.drop 1)))
  | 0x1B => onLength 0 p reqStore
  | 0x1C => onLength 13 p (reqConfigureDevice (deviceValuesOf p))
  | _ => fun s => (s, answer .unknownKind)

/-! ## The receiver (R167 to R171) -/

/-- The link error count goes up by one, staying at 65,535 (R171). -/
def State.countError (s : State) : State :=
  { s with link := { s.link with errors := min 65535 (s.link.errors + 1) } }

/-- The receiver enters RESYNC and its silence wait begins at `t` (R167). -/
def State.resyncFrom (s : State) (t : Ticks) : State :=
  { s with link := { s.link with rx := .resync, frame := [], lastChar := t } }

/-- A frame is discarded and counted, and the receiver enters RESYNC (R168). -/
def State.discardFrame (s : State) (t : Ticks) : State := s.countError.resyncFrom t

/-- The time of ten bits in ticks, times the bit rate: a character (R166). -/
def charScaled : Nat := 10 * 40000000

/-- How long the line was silent before a character that ends now, compared with 2 ms exactly: the time from the end of the last
character to the start of this one, in ticks times the bit rate. -/
def Link.silenceScaled (l : Link) (now : Ticks) : Int :=
  (((now - l.lastChar) * l.bitRate : Nat) : Int) - (charScaled : Nat)

/-- 2 ms in ticks times the bit rate. -/
def Link.gapScaled (l : Link) : Int := ((msTicks 2 * l.bitRate : Nat) : Int)

/-- The time the line has been silent for more than 2 ms since the last character (R168); RESYNC waits from there (assumption log 38). -/
def Link.timeoutAt (l : Link) : Ticks := l.lastChar + msTicks 2 + 1

/-- A sound frame is tested on its address (R170) and taken by R172: an addressed request is answered, a broadcast HALT or SET FEED acts, every
other frame is disregarded. -/
def State.takeFrame (s : State) (addr kind : Byte) (payload : List Byte) : State :=
  let s := s.listen
  if addr.toNat = s.link.addr ∧ s.link.addr ≠ 0 then
    let r := request kind payload s
    r.1.reply kind r.2
  else if addr = 0x00#8 ∧ (kind = 0x09#8 ∨ kind = 0x11#8) then (request kind payload s).1
  else s

/-- The length byte of a frame under reception, where it has arrived. -/
def frameLength (f : List Byte) : Option Nat := f[2]?.map BitVec.toNat

/-- A character joins the frame in RECEIVE (R167 to R169). Characters up to the end of the payload enter the running CRC; the second CRC byte
completes the frame. -/
def State.addCharacter (s : State) (c : Byte) : State :=
  let f := s.link.frame ++ [c]
  let more := { s with link := { s.link with frame := f, lastChar := s.clock } }
  let crc := crcByte s.link.crc c
  match frameLength f with
  | none => { more with link := { more.link with crc := crc } }
  | some n =>
    if 200 < n then s.discardFrame s.clock
    else if f.length ≤ 3 + n then { more with link := { more.link with crc := crc } }
    else if f.length < 5 + n then more
    else if fromBytes ((f.drop (3 + n)).take 2) = s.link.crc.toNat then
      more.takeFrame (f.getD 0 0#8) (f.getD 1 0#8) ((f.drop 3).take n)
    else s.discardFrame s.clock

/-- A character in LISTEN: A5h starts a frame, any other is disregarded (R167). -/
def State.listenCharacter (s : State) (c : Byte) (stopBit : Bool) : State :=
  if stopBit ∧ c = 0xA5#8 then
    { s with link := { s.link with rx := .receive, frame := [], crc := 0xFFFF#16, lastChar := s.clock } }
  else { s with link := { s.link with rx := .listen, lastChar := s.clock } }

/-- A character in RESYNC: after a silence of 2 ms the receiver was in LISTEN; otherwise the character restarts the wait (R167). -/
def State.resyncCharacter (s : State) (c : Byte) (stopBit : Bool) : State :=
  if s.link.gapScaled ≤ s.link.silenceScaled s.clock then s.listenCharacter c stopBit else s.resyncFrom s.clock

/-- A character in RECEIVE: after a gap of more than 2 ms the frame had been discarded; without its stop bit it discards the frame; otherwise
it joins the frame (R168). -/
def State.receiveCharacter (s : State) (c : Byte) (stopBit : Bool) : State :=
  if s.link.gapScaled < s.link.silenceScaled s.clock then
    (s.discardFrame s.link.timeoutAt).resyncCharacter c stopBit
  else if stopBit then s.addCharacter c
  else s.discardFrame s.clock

/-- A foreign character during the reply: a frame begun is counted once; after more than 2 ms of silence it is another frame (R174). -/
def State.replyCharacter (s : State) : State :=
  let seen := { s with link := { s.link with intruder := some s.clock } }
  match s.link.intruder with
  | none => seen.countError
  | some t =>
    if s.link.gapScaled < ({ s.link with lastChar := t } : Link).silenceScaled s.clock then seen.countError else seen

/-! ## Meanings of the rows -/

/-- CHARACTER_RECEIVED (R167 to R174): a character whose stop bit ends now. KEY is its level now, for the request a frame may complete. -/
def execCharacterReceived (dt : Ticks) (byte : Byte) (stopBit key : Bool) (s : State) :
    Host.Outcome State Fault Refusal :=
  .next (((s.elapse dt).setKey key).whenRunning fun s =>
    match s.link.rx with
    | .resync => s.resyncCharacter byte stopBit
    | .listen => s.listenCharacter byte stopBit
    | .receive => s.receiveCharacter byte stopBit
    | .reply => s.replyCharacter)

/-- FRAME_DISCARD (R168, R169): a frame the receiver hears is discarded and counted. -/
def execFrameDiscard (dt : Ticks) (_why : DiscardReason) (s : State) : Host.Outcome State Fault Refusal :=
  .next ((s.elapse dt).whenRunning fun s => if s.link.hears then s.discardFrame s.clock else s)

/-- INTER_CHARACTER_TIMEOUT (R168). -/
def execInterCharacterTimeout (s : State) : Host.Outcome State Fault Refusal :=
  .next (s.whenRunning fun s =>
    if s.link.rx = .receive then
      let s := s.reach s.link.timeoutAt
      s.discardFrame s.clock
    else s)

/-- RESYNC_SILENCE (R167). -/
def execResyncSilence (s : State) : Host.Outcome State Fault Refusal :=
  .next (s.whenRunning fun s =>
    if s.link.rx = .resync then (s.reach (s.link.lastChar + msTicks 2)).listen else s)

/-- FRAME_FOR_OTHER_DEVICE (R170): disregarded and not counted. -/
def execFrameForOtherDevice (dt : Ticks) (s : State) : Host.Outcome State Fault Refusal :=
  .next ((s.elapse dt).whenRunning fun s => if s.link.hears then s.listen else s)

/-- FRAME_BEGUN_DURING_REPLY (R174): discarded and counted once. -/
def execFrameBegunDuringReply (dt : Ticks) (s : State) : Host.Outcome State Fault Refusal :=
  .next ((s.elapse dt).whenRunning fun s =>
    if s.link.rx = .reply then { s.countError with link := { s.countError.link with intruder := some s.clock } }
    else s)

/-- UNKNOWN_KIND (R172, R192): the reply carries the kind code as received. -/
def execUnknownKind (dt : Ticks) (kind : Byte) (s : State) : Host.Outcome State Fault Refusal :=
  .next (if kindUnassigned kind then s.answered dt kind fun s => (s, answer .unknownKind) else s.elapse dt)

/-- REPLY_START (R173): the driver begins the reply `wait` ticks after the taking, from 0.5 ms to 10 ms. -/
def execReplyStart (wait : Ticks) (s : State) : Host.Outcome State Fault Refusal :=
  .next (s.whenRunning fun s =>
    if s.link.rx = .reply ∧ s.link.driving.isNone then
      let s := s.reach (s.link.takenAt + clampTo (usTicks 500) (msTicks 10) wait)
      { s with link := { s.link with driving := some s.clock } }
    else s)

/-- The time to send characters back to back, in whole ticks rounded up (R166, R173). -/
def Link.sendTicks (l : Link) (chars : Nat) : Ticks := (chars * charScaled + (l.bitRate - 1)) / l.bitRate

/-- REPLY_COMPLETE (R173): the last stop bit has been sent; the driver is released and the receiver enters RESYNC. -/
def execReplyComplete (s : State) : Host.Outcome State Fault Refusal :=
  .next (s.whenRunning fun s =>
    match s.link.driving with
    | some t =>
      let s := s.reach (t + s.link.sendTicks s.link.reply.length)
      { s with link := { s.link with
          rx := .resync, frame := [], lastChar := s.clock, reply := [], driving := none, intruder := none } }
    | none => s)

end Sys2Proof.Machine
end

