-- ==== Sys2Proof/Machine/Dispatch.lean ====
section
/-!
DEFINITION. The dispatcher: one arm per command, each one direct call of the command's meaning.
-/

namespace Sys2Proof.Machine

def exec (i : Instr) (s : State) : Host.Outcome State Fault Refusal :=
  match i with
  | .powerOn dt => Sys2Proof.Machine.execPowerOn dt s
  | .supplyLoss dt => Sys2Proof.Machine.execSupplyLoss dt s
  | .resetInput dt => Sys2Proof.Machine.execResetInput dt s
  | .resetRelease dt => Sys2Proof.Machine.execResetRelease dt s
  | .startUpEnd dt addr rate => Sys2Proof.Machine.execStartUpEnd dt addr rate s
  | .positionInterrogation n => Sys2Proof.Machine.execPositionInterrogation n s
  | .posReturnLeadingEdge dt n => Sys2Proof.Machine.execPosReturnLeadingEdge dt n s
  | .posReturnTrailingEdge dt n => Sys2Proof.Machine.execPosReturnTrailingEdge dt n s
  | .noReturnTimeout n => Sys2Proof.Machine.execNoReturnTimeout n s
  | .widthTooLong n => Sys2Proof.Machine.execWidthTooLong n s
  | .echoTrigger n => Sys2Proof.Machine.execEchoTrigger n s
  | .echoRisingEdge dt n => Sys2Proof.Machine.execEchoRisingEdge dt n s
  | .echoWindowExpiry n => Sys2Proof.Machine.execEchoWindowExpiry n s
  | .levelLostTimeout n => Sys2Proof.Machine.execLevelLostTimeout n s
  | .powerPulse dt n => Sys2Proof.Machine.execPowerPulse dt n s
  | .staleExpiry n => Sys2Proof.Machine.execStaleExpiry n s
  | .scaleFilterDefined dt n level => Sys2Proof.Machine.execScaleFilterDefined dt n level s
  | .scalePulse dt n => Sys2Proof.Machine.execScalePulse dt n s
  | .scaleInactiveTransition dt n => Sys2Proof.Machine.execScaleInactiveTransition dt n s
  | .trampOnset dt n => Sys2Proof.Machine.execTrampOnset dt n s
  | .trampClearance dt n => Sys2Proof.Machine.execTrampClearance dt n s
  | .trampListAgeing n => Sys2Proof.Machine.execTrampListAgeing n s
  | .reliefHoldExpiry n => Sys2Proof.Machine.execReliefHoldExpiry n s
  | .settleExpiry n => Sys2Proof.Machine.execSettleExpiry n s
  | .pulseTimerExpiry n => Sys2Proof.Machine.execPulseTimerExpiry n s
  | .loadWaitExpiry n => Sys2Proof.Machine.execLoadWaitExpiry n s
  | .resumeDwellExpiry n => Sys2Proof.Machine.execResumeDwellExpiry n s
  | .quietTimerExpiry n => Sys2Proof.Machine.execQuietTimerExpiry n s
  | .drainTimeoutExpiry n => Sys2Proof.Machine.execDrainTimeoutExpiry n s
  | .seekSettleExpiry n => Sys2Proof.Machine.execSeekSettleExpiry n s
  | .testTrampExpiry n => Sys2Proof.Machine.execTestTrampExpiry n s
  | .controlInterval n => Sys2Proof.Machine.execControlInterval n s
  | .chainTimerExpiry n => Sys2Proof.Machine.execChainTimerExpiry n s
  | .feedHalfEnd n => Sys2Proof.Machine.execFeedHalfEnd n s
  | .feedPeriodEnd n => Sys2Proof.Machine.execFeedPeriodEnd n s
  | .leanTimerExpiry n => Sys2Proof.Machine.execLeanTimerExpiry n s
  | .storeWriteComplete wait => Sys2Proof.Machine.execStoreWriteComplete wait s
  | .panelFrame => Sys2Proof.Machine.execPanelFrame s
  | .frameDiscard dt why => Sys2Proof.Machine.execFrameDiscard dt why s
  | .interCharacterTimeout => Sys2Proof.Machine.execInterCharacterTimeout s
  | .resyncSilence => Sys2Proof.Machine.execResyncSilence s
  | .frameForOtherDevice dt => Sys2Proof.Machine.execFrameForOtherDevice dt s
  | .frameBegunDuringReply dt => Sys2Proof.Machine.execFrameBegunDuringReply dt s
  | .unknownKind dt kind => Sys2Proof.Machine.execUnknownKind dt kind s
  | .replyStart wait => Sys2Proof.Machine.execReplyStart wait s
  | .replyComplete => Sys2Proof.Machine.execReplyComplete s
  | .setGapAppend dt st target tag => Sys2Proof.Machine.execSetGapAppend dt st target tag s
  | .setGapReplace dt st target tag => Sys2Proof.Machine.execSetGapReplace dt st target tag s
  | .cancelGapPending dt st => Sys2Proof.Machine.execCancelGapPending dt st s
  | .cancelGapActive dt st => Sys2Proof.Machine.execCancelGapActive dt st s
  | .cancelGapAll dt st => Sys2Proof.Machine.execCancelGapAll dt st s
  | .suspendMove dt st => Sys2Proof.Machine.execSuspendMove dt st s
  | .resumeMove dt st => Sys2Proof.Machine.execResumeMove dt st s
  | .calibrate dt st => Sys2Proof.Machine.execCalibrate dt st s
  | .changeLiners dt st => Sys2Proof.Machine.execChangeLiners dt st s
  | .tuneGap dt st v => Sys2Proof.Machine.execTuneGap dt st v s
  | .setLimits dt st v key => Sys2Proof.Machine.execSetLimits dt st v key s
  | .setFeed dt bcast st mode rate => Sys2Proof.Machine.execSetFeed dt bcast st mode rate s
  | .tuneFeed dt st v => Sys2Proof.Machine.execTuneFeed dt st v s
  | .loadSchedule dt st steps => Sys2Proof.Machine.execLoadSchedule dt st steps s
  | .runScheduleStart dt st mode cyclic => Sys2Proof.Machine.execRunScheduleStart dt st mode cyclic s
  | .runScheduleStop dt st mode cyclic => Sys2Proof.Machine.execRunScheduleStop dt st mode cyclic s
  | .runScheduleAdvance dt st mode cyclic => Sys2Proof.Machine.execRunScheduleAdvance dt st mode cyclic s
  | .readLot dt => Sys2Proof.Machine.execReadLot dt s
  | .isolate dt st => Sys2Proof.Machine.execIsolate dt st s
  | .releaseIsolate dt st => Sys2Proof.Machine.execReleaseIsolate dt st s
  | .dryRunOn dt st => Sys2Proof.Machine.execDryRunOn dt st s
  | .dryRunOff dt st => Sys2Proof.Machine.execDryRunOff dt st s
  | .testTramp dt st duration => Sys2Proof.Machine.execTestTramp dt st duration s
  | .halt dt bcast st => Sys2Proof.Machine.execHalt dt bcast st s
  | .resetStation dt st => Sys2Proof.Machine.execResetStation dt st s
  | .clearFault dt st => Sys2Proof.Machine.execClearFault dt st s
  | .readStation dt st => Sys2Proof.Machine.execReadStation dt st s
  | .readWear dt st => Sys2Proof.Machine.execReadWear dt st s
  | .readDevice dt key => Sys2Proof.Machine.execReadDevice dt key s
  | .readAttention dt => Sys2Proof.Machine.execReadAttention dt s
  | .clearAttention dt sources => Sys2Proof.Machine.execClearAttention dt sources s
  | .maskAttentionSet dt sources => Sys2Proof.Machine.execMaskAttentionSet dt sources s
  | .maskAttentionClear dt sources => Sys2Proof.Machine.execMaskAttentionClear dt sources s
  | .raiseAttention dt sources => Sys2Proof.Machine.execRaiseAttention dt sources s
  | .store dt => Sys2Proof.Machine.execStore dt s
  | .configureDevice dt v => Sys2Proof.Machine.execConfigureDevice dt v s
  | .filterClockTick samples => Sys2Proof.Machine.execFilterClockTick samples s
  | .characterReceived dt byte stopBit key => Sys2Proof.Machine.execCharacterReceived dt byte stopBit key s
  | .panelBit => Sys2Proof.Machine.execPanelBit s

end Sys2Proof.Machine
end

