-- ==== Sys2Proof/Safety.lean ====
section
/-!
DEFINITION. The terms that statements use: when a device serves a station and hears a request, what it means that a command completes, what an event
at one station leaves alone, and the laws of the device that every step keeps (R27, R41, R63, R95, R119, R149).
-/

namespace Sys2Proof.Machine

/-! ## Conditions on a state -/

/-- The device runs and station `i` is present. -/
def State.Serving (s : State) (i : StationId) : Prop := s.phase = .running ∧ s.present i = true

/-- The device runs, its receiver hears frames, and its address is not 0 (R166, R167). -/
def State.Hearing (s : State) : Prop := s.phase = .running ∧ s.link.hears = true ∧ s.link.addr ≠ 0

/-- A request naming station `i` is heard and passes the station test (R172). -/
def State.HearsFor (s : State) (i : StationId) : Prop := s.Hearing ∧ s.present i = true

/-- A command completes: it answers a next state, of which `Q` holds. -/
def Takes (c : Instr) (s : State) (Q : State → Prop) : Prop := ∃ t, exec c s = .next t ∧ Q t

/-- The link after a request is taken `dt` ticks on and answered (R173). -/
def State.replied (s : State) (dt : Ticks) (kind : Byte) (a : Answer) : Link := ((s.elapse dt).reply kind a).link

/-- The state at clock time `c` with the state of station `i` replaced, and nothing else changed. -/
def State.stationAt (s : State) (c : Ticks) (i : StationId) (st : Station) : State :=
  { s with clock := c, stations := s.stations.set i st }

/-- A source is raised. -/
def State.Raised (s : State) (n : Nat) : Prop := s.raised.getLsbD n = true

/-- IDLE or UNREFERENCED by the zero reference (R40). -/
def restState (zValid : Bool) : GapState := if zValid then .idle else .unreferenced

/-! ## Frames -/

/-- What the chain coupling may change in a regulator (R121, R132): its demand, output rate, previous level error, stop reason DOWNSTREAM,
chain timer and waveform. Everything else stands. -/
def FeedRegulator.Chained (f g : FeedRegulator) : Prop :=
  g = { f with
    demand := g.demand, output := g.output, prevError := g.prevError, chainTimer := g.chainTimer, wave := g.wave
    stops := { f.stops with downstream := g.stops.downstream } }

/-- A station that an event elsewhere reaches through the chain coupling alone. -/
def Station.Kept (a b : Station) : Prop := b = { a with feed := b.feed } ∧ a.feed.Chained b.feed

/-- Every station but `i` is reached through the chain coupling alone. -/
def State.OthersKept (s t : State) (i : StationId) : Prop := ∀ j, j ≠ i → (s.st j).Kept (t.st j)

/-- Two states differ at most in the clock, the stations and the raised sources. -/
def State.SameDevice (s t : State) : Prop := t = { s with clock := t.clock, stations := t.stations, raised := t.raised }

/-- Two states differ at most in the clock, the stations, the raised sources and the lot queue. -/
def State.SameButLots (s t : State) : Prop :=
  t = { s with clock := t.clock, stations := t.stations, raised := t.raised, lotQueue := t.lotQueue }

/-! ## Requests that may name every station -/

/-- A request is heard (R166, R167, R170): addressed to a device whose address is not 0, or in a broadcast frame. -/
def State.HearsFrame (s : State) (bcast : Bool) : Prop :=
  s.phase = .running ∧ s.link.hears = true ∧ (bcast = true ∨ s.link.addr ≠ 0)

/-- The station byte `n` names station `i`, which is present: by its number, or by 255 (R117, R161, R172). -/
def State.Names (s : State) (n : Nat) (i : StationId) : Prop := s.present i = true ∧ (n = i.val ∨ n = 255)

/-- The link after a request of HALT or SET FEED: a broadcast frame gets no reply (R170). -/
def State.answeredTo (s : State) (dt : Ticks) (bcast : Bool) (kind : Byte) (a : Answer) : Link :=
  if bcast then (s.elapse dt).listen.link else s.replied dt kind a

/-! ## Lots, as chapter 8 gives them -/

/-- The record of an open lot that closes (R146), its mean power by R147. -/
def OpenLot.closed (l : OpenLot) (i : StationId) (reason : CloseReason) (w : Nat) : LotRecord :=
  { station := i, number := l.number, mass := l.mass, reason := reason, target := l.target, step := l.step
    meanPower := if 1 ≤ l.freshCount ∧ l.intervals ≤ 2 * l.freshCount then
        some ((l.powerSum + l.freshCount / 2) / l.freshCount) else none
    w := w }

/-- A closed lot's record alone joins the lot queue and raises LOT WAITING where that was empty, or is dropped with LOT LOSS where 16 stand
(R149). -/
def State.LotJoins (s t : State) (r : LotRecord) : Prop :=
  if s.lotQueue.length < 16 then t.lotQueue = s.lotQueue ++ [r] ∧ (s.lotQueue = [] → t.Raised 33)
  else t.lotQueue = s.lotQueue ∧ t.Raised 34

/-- The lot accumulator after its open lot has closed, its record handed to the lot queue of `s` (R146, R149). -/
def State.lotsClosed (s : State) (i : StationId) : LotAccumulator :=
  let x := (s.st i).lots
  { x with
    lot := none, leanTimer := none
    dropped := if s.lotQueue.length < 16 then x.dropped else min 65535 (x.dropped + 1) }

/-- The lots of station `i` and the lot queue stand, and the raised set is `x`. -/
def State.LotsStand (s t : State) (i : StationId) (x : BitVec 36) : Prop :=
  (t.st i).lots = (s.st i).lots ∧ t.lotQueue = s.lotQueue ∧ t.raised = x

/-- A SETTING activation hands its effective target, the raised set being `x` otherwise: an open lot whose target is absent or differs closes
CUT (R145, R146, R149). -/
def State.HandsTarget (s t : State) (i : StationId) (eff : Nat) (x : BitVec 36) : Prop :=
  match (s.st i).lots.lot with
  | none => s.LotsStand t i x
  | some l =>
    if l.target = some eff then s.LotsStand t i x
    else
      (t.st i).lots = s.lotsClosed i ∧ s.LotJoins t (l.closed i .cut (s.st i).gap.w) ∧
        t.raised = x ||| (if 16 ≤ s.lotQueue.length then sourceBit 34
          else if s.lotQueue = [] then sourceBit 33 else 0#36)

/-! ## Entries and moves, as chapters 2 to 4 give them -/

/-- An entry formed under the limits (R42). -/
def entryUnder (lim : Limits) (requested : Nat) (origin : Origin) (tag step : Option Nat) : SettingEntry :=
  let eff := clampTo lim.cssMin lim.cssMax requested
  { requested := requested, effective := eff, clamped := eff != requested, origin := origin, tag := tag, step := step }

/-- What a space event adds to the queue: the entry of a held step, at the schedule's index (R43, R154). -/
def Station.heldStep (st : Station) : List SettingEntry :=
  if st.sched.pending then
    [entryUnder st.record.limits ((st.sched.steps[st.sched.index]?.map ScheduleStep.target).getD 0) .schedule none
      (some (st.sched.index + 1))]
  else []

/-- The schedule after a space event (R154). -/
def Schedule.spaced (c : Schedule) : Schedule := if c.pending then { c with state := .running, pending := false } else c

/-- A move at a target fix point of the requested target (R31 to R33, R35): the effective target, P_t and STROKE_CLAMPED of this moment, the
direction and P_before absent, and no load wait. -/
def Station.aimed (st : Station) (requested : Nat) (m : Move) : Move :=
  let r := st.record
  let eff := clampTo r.limits.cssMin r.limits.cssMax requested
  let raw := r.z - ((eff - st.gap.w) * 256 + r.gapTuning.k / 2) / r.gapTuning.k
  let pt := clampTo r.limits.pMin r.limits.pMax raw
  { m with eff := some eff, pt := some pt, strokeClamped := pt != raw, dir := none, pBefore := none, loadWaited := 0 }

/-- A move of a kind at its forming, in SETTLE since `now` (R44, R45, R64). -/
def Station.freshMove (st : Station) (now : Ticks) (kind : MoveKind) (origin : Option Origin) (tag : Option Nat) : Move :=
  { kind := kind, origin := origin, tag := tag, eff := none, pt := none, strokeClamped := false
    phase := .settle (now + msTicks st.record.gapTuning.settle), dir := none, pBefore := none, pulses := 0
    noProgress := 0, pendingSuspend := false, dwell := none, loadWaited := 0 }

/-- The entry `e` is activated and the entries `held` join behind, `g` being the gap channel without `e` and `x` the raised set (R44): the
station is MOVING with GAP_MOVE posted, and a SETTING move hands its target to the lots. -/
def State.Activates (s t : State) (i : StationId) (g : GapChannel) (e : SettingEntry) (held : List SettingEntry)
    (x : BitVec 36) : Prop :=
  let st := s.st i
  let kind : MoveKind := if e.origin = .trim then .trim else .setting
  (t.st i).gap = { g with
    state := .moving, queue := g.queue ++ held
    move := some (st.aimed e.requested (st.freshMove t.clock kind (some e.origin) e.tag)) } ∧
  (t.st i).feed.gapMove = true ∧
  if e.origin = .trim then s.LotsStand t i x
  else s.HandsTarget t i (clampTo st.record.limits.cssMin st.record.limits.cssMax e.requested) x

/-- The standing target where a trim is due at a station whose gap channel is to be `g` (R47): a threshold above 0, the trim-inhibit flag clear,
and E at or above the standing target plus the threshold. -/
def Station.dueTrim (st : Station) (g : GapChannel) : Option Nat :=
  match g.standing, st.posInUse with
  | some target, some p =>
    if st.record.zValid = true ∧ st.record.gapTuning.trimThreshold ≠ 0 ∧ g.trimInhibit = false ∧
        target + st.record.gapTuning.trimThreshold ≤ geometricCss st.record.z st.record.gapTuning.k p + g.w then
      some target
    else none
  | _, _ => none

/-- The station goes to IDLE or UNREFERENCED with the gap channel `g` and the raised set `x` (R40): in IDLE the oldest entry is activated, a held
step joining at its space event (R43, R154); with an empty queue a TRIM entry for the standing target is, where one is due (R47);
otherwise the station rests. -/
def State.Rests (s t : State) (i : StationId) (g : GapChannel) (x : BitVec 36) : Prop :=
  let st := s.st i
  let activates := fun (rest : List SettingEntry) (e : SettingEntry) =>
    s.Activates t i { g with queue := rest } e st.heldStep x ∧ (t.st i).sched = st.sched.spaced
  let rests := (t.st i).gap = { g with state := restState st.record.zValid } ∧ s.LotsStand t i x ∧
    (t.st i).sched = st.sched
  if st.record.zValid = true then
    match g.queue with
    | e :: rest => activates rest e
    | [] => match st.dueTrim g with
      | some target => activates [] (entryUnder st.record.limits target .trim none none)
      | none => rests
  else rests

/-- The gap channel at the end of a SETTING or TRIM move with a result (R48, R80, R82). -/
def Station.ended (st : Station) (m : Move) (r : MoveResult) : GapChannel :=
  { st.gap with
    move := none, standing := if r = .complete then m.eff else st.gap.standing
    trimInhibit := if r = .complete then m.strokeClamped else st.gap.trimInhibit || m.kind == .trim
    lastMove := some
      { result := r, kind := m.kind, origin := m.origin, tag := m.tag, eff := m.eff, finalPos := st.posInUse
        pulses := m.pulses, strokeClamped := m.strokeClamped } }

/-- A relief ends (R99, R101): the context's move continues at a target fix point with its counts kept, in SETTLE or SUSPENDED as it was, or the
station goes to IDLE or UNREFERENCED. -/
def State.ReliefEnds (s t : State) (i : StationId) : Prop :=
  let st := s.st i
  let g := { st.gap with move := none, pSave := none, noRestore := false, holdTimer := none }
  match g.context with
  | none => s.Rests t i g s.raised
  | some c => s.LotsStand t i s.raised ∧ (t.st i).sched = st.sched ∧ ∀ target, c.move.eff = some target →
      (t.st i).gap = { g with
        state := if c.suspended then .suspended else .moving
        context := none
        move := some { st.aimed target c.move with
          phase := if c.suspended then .parked else .settle (t.clock + msTicks st.record.gapTuning.settle)
          pendingSuspend := false, dwell := none } }

/-! ## Readings, as chapters 4 and 6 take them -/

/-- The gap channel after an evaluation of the drain condition on a power reading and a level reading (R104, R105). -/
def Station.drainTaken (st : Station) (now : Ticks) (power : Nat) (level : Option Nat) : GapChannel :=
  match st.gap.calibration with
  | none => st.gap
  | some c =>
    if c.phase = .drain then
      let drained := decide (power ≤ st.record.gapTuning.idlePower) && match level with
        | none => true
        | some l => decide (l ≤ st.record.gapTuning.emptyLevel)
      { st.gap with calibration := some { c with
          quietTimer := if drained then some (c.quietTimer.getD (now + secTicks 10)) else none } }
    else st.gap

/-- A power event: the power channel becomes `power` (R12). A move in WAIT_LOAD waits on above the close power limit; at or below it, the move
ends COMPLETE within the deadband, and otherwise gives a pulse toward P_t, whose direction is set afresh, without a stall or limit test
(R73, R37); in DRAIN the drain condition is evaluated (R104, R105). -/
def State.TakesPower (s t : State) (i : StationId) (power : PowerChannel) : Prop :=
  let st := s.st i
  let u := st.record.gapTuning
  let waits := t = s.stationAt t.clock i
    { st with power := power, gap := st.drainTaken t.clock power.reading st.levelReading }
  match st.gap.move, st.posInUse with
  | some m, some p =>
    match m.phase, m.pt with
    | .waitLoad since _, some q =>
      if u.closePower < power.reading then waits
      else st.gap.calibration = none →
        (t.st i).power = power ∧ (t.st i).record = st.record ∧ s.SameButLots t ∧ s.OthersKept t i ∧
        if u.d < apart q p then
          s.LotsStand t i s.raised ∧ (t.st i).sched = st.sched ∧
          (t.st i).gap = { st.gap with
            move := some { m with
              phase := .pulse t.clock (clampTo u.tMin u.tMax (apart q p * u.pulseGain))
              dir := some (if p < q then .closing else .opening), pBefore := some p, pulses := m.pulses + 1
              loadWaited := min 600 ((t.clock - since) / 40000000) }
            openOut := if st.gap.dryRun then st.gap.openOut else decide (q ≤ p)
            closeOut := if st.gap.dryRun then st.gap.closeOut else decide (p < q) }
        else
          (m.kind = .setting ∨ m.kind = .trim →
            s.Rests t i (st.ended m .complete) (s.raised ||| sourceBit (8 * i.val))) ∧
          (m.kind = .restore → s.ReliefEnds t i)
    | .waitLoad _ _, none => True
    | _, _ => waits
  | _, _ => waits

/-! ## A cut pulse under dry run, as chapters 4 and 9 give it -/

/-- The simulated position after the phase of the move in flight is left at `now` with dry run on (R71, R159): a pulse that is cut moves it by the
whole ms it ran, no more than its width (assumption log 13), at the travel rate, clamped to [0, simulated contact count]; any other phase leaves it. -/
def Station.simCut (st : Station) (now : Ticks) (p : Nat) : Nat :=
  match st.gap.move with
  | some { phase := .pulse since width, dir := d, .. } =>
    let travel := min width ((now - since) / 40000) * st.record.gapTuning.travelRate / 1000
    clampTo 0 st.record.gapTuning.simContact (if d = some .opening then p - travel else p + travel)
  | _ => p

/-! ## Records, as 13.4 and 13.5 give them -/

/-- The number in the `width` bytes of a record at an offset, most significant byte first (R191). -/
def fieldAt (r : List Byte) (offset width : Nat) : Nat := ((r.drop offset).take width).foldl (fun n b => 256 * n + b.toNat) 0

/-- From `base` on, a record carries numbers, each given by its offset, its width in bytes and its value; a number fills its width, most
significant byte first, and an absent one is sent as zero (R191). -/
def Carries (r : List Byte) (base : Nat) (fields : List (Nat × Nat × Nat)) : Prop :=
  ∀ f ∈ fields, fieldAt r (base + f.1) f.2.1 = f.2.2 % 256 ^ f.2.1

/-- A record carries bits in `width` bytes at an offset, bit 0 the least significant of the last byte; bits beyond the list are 0 (R191). -/
def CarriesBits (r : List Byte) (offset width : Nat) (bits : List Bool) : Prop :=
  ∀ k < 8 * width, (fieldAt r offset width).testBit k = bits.getD k false

/-- The place of each gap state in 13.4. -/
def gapStateNumber : GapState → Nat
  | .unreferenced => 0 | .idle => 1 | .moving => 2 | .suspended => 3 | .relieved => 4 | .restoring => 5 | .calibrating => 6
  | .isolated => 7 | .faulted => 8

/-- The phases of a move in 13.4; a parked move has none. -/
def movePhaseNumber : MovePhase → Nat
  | .parked => 0 | .settle _ => 1 | .pulse _ _ => 2 | .waitLoad _ _ => 3

/-- The phases of a calibration in 13.4. -/
def calPhaseNumber : CalPhase → Nat
  | .drain => 4 | .seek => 5 | .backoff => 6

/-- The move kinds of 13.4. -/
def moveKindNumber : MoveKind → Nat
  | .setting => 1 | .trim => 2 | .restore => 3 | .seek => 4 | .backoff => 5

/-- The origins of 13.4. -/
def originNumber : Origin → Nat
  | .link => 1 | .schedule => 2 | .trim => 3

/-- The directions of 13.4. -/
def dirNumber : Dir → Nat
  | .opening => 1 | .closing => 2

/-- The move results of 13.4. -/
def moveResultNumber : MoveResult → Nat
  | .complete => 1 | .cancelled => 2 | .halted => 3 | .stalled => 4 | .pulseLimit => 5 | .loadTimeout => 6 | .isolated => 7
  | .faulted => 8

/-- The calibration results of 13.4. -/
def calResultNumber : CalResult → Nat
  | .done => 1 | .backoffFailed => 2 | .notEmpty => 3 | .noContact => 4 | .aborted => 5

/-- The history flags of 13.4. -/
def histFlagNumber : HistFlag → Nat
  | .normal => 1 | .shortBasis => 2 | .zeroJump => 3 | .first => 4

/-- The fault causes of 13.4. -/
def faultCauseNumber : FaultCause → Nat
  | .positionLost => 1 | .trampRepeat => 2 | .restoreStalled => 3

/-- The feed modes of 13.4. -/
def feedModeNumber : FeedMode → Nat
  | .stop => 0 | .manual => 1 | .auto => 2

/-- The schedule states of 13.4. -/
def schedStateNumber : SchedState → Nat
  | .empty => 0 | .loaded => 1 | .running => 2 | .held => 3 | .ended => 4

/-- The close reasons of 13.4. -/
def closeReasonNumber : CloseReason → Nat
  | .full => 1 | .short => 2 | .cut => 3

/-- The writer states of 13.4. -/
def writerNumber : Writer → Nat
  | .idle => 0 | .device _ _ => 1 | .station i _ _ => 2 + i.val

/-- An optional code; an absent one is zero (R191). -/
def codeOr {α : Type} (f : α → Nat) (x : Option α) : Nat := (x.map f).getD 0

/-- A queue slot, 12 bytes. -/
def slotFields (e : SettingEntry) : List (Nat × Nat × Nat) :=
  [(0, 4, e.requested), (4, 4, e.effective), (8, 1, e.clamped.toNat), (9, 1, originNumber e.origin), (10, 1, e.tag.getD 0),
    (11, 1, e.step.getD 0)]

/-- A move record or a context, 21 bytes from `base` on, with bit 7 of its flags; an absent one is all zero. -/
def CarriesMove (r : List Byte) (base : Nat) (now : Ticks) (x : Option (Move × Bool)) : Prop :=
  match x with
  | none => Carries r base [(0, 21, 0)]
  | some (m, last) =>
    CarriesBits r base 1
      [m.origin.isSome, m.tag.isSome, m.eff.isSome, m.pt.isSome, m.dir.isSome, m.pBefore.isSome, m.strokeClamped, last] ∧
    Carries r base
      [(1, 1, moveKindNumber m.kind), (2, 1, codeOr originNumber m.origin), (3, 1, m.tag.getD 0), (4, 4, m.eff.getD 0),
        (8, 2, m.pt.getD 0), (10, 1, movePhaseNumber m.phase), (11, 1, codeOr dirNumber m.dir), (12, 2, m.pBefore.getD 0),
        (14, 2, m.pulses), (16, 1, m.noProgress), (17, 2, codeOr (fun t => (t - now) / 40000) m.dwell),
        (19, 2, match m.phase with
          | .waitLoad since _ => min 600 ((now - since) / 40000000)
          | _ => m.loadWaited)]

/-- A last move result, 12 bytes from `base` on; an absent one is all zero. -/
def CarriesLastMove (r : List Byte) (base : Nat) (x : Option LastMove) : Prop :=
  match x with
  | none => Carries r base [(0, 12, 0)]
  | some l =>
    CarriesBits r base 1 [l.tag.isSome, l.finalPos.isSome, l.strokeClamped] ∧
    Carries r base
      [(1, 1, moveResultNumber l.result), (2, 1, moveKindNumber l.kind), (3, 1, codeOr originNumber l.origin),
        (4, 1, l.tag.getD 0), (5, 4, l.eff.getD 0), (9, 2, l.finalPos.getD 0), (11, 1, l.pulses)]

/-- The phase and the sub-phase of the status record (R39, R175): a phase in MOVING, RESTORING and CALIBRATING, a sub-phase in CALIBRATING. -/
def GapChannel.phaseNumbers (g : GapChannel) : Nat × Nat :=
  let move := codeOr (fun m : Move => movePhaseNumber m.phase) g.move
  if g.state = .moving ∨ g.state = .restoring then (move, 0)
  else if g.state = .calibrating then (codeOr (fun c : Calibration => calPhaseNumber c.phase) g.calibration, move)
  else (0, 0)

/-- The station status record of 13.5 (R175), field for field. -/
def CarriesStatus (r : List Byte) (now : Ticks) (st : Station) : Prop :=
  let g := st.gap
  let f := st.feed
  let x := f.stops
  let css := if st.record.zValid then st.posInUse.map (geometricCss st.record.z st.record.gapTuning.k) else none
  CarriesBits r 0 2
    [st.posInUse.isSome, css.isSome, css.isSome, st.record.zValid, g.standing.isSome, g.move.isSome, g.context.isSome,
      g.pSave.isSome, g.lastMove.isSome, g.cause.isSome, st.levelReading.isSome] ∧
  CarriesBits r 9 1
    [st.pos.valid, g.dryRun, decide (g.state = .isolated),
      st.record.zValid && decide (st.record.z < st.posInUse.getD 0), g.trimInhibit, st.power.fresh] ∧
  CarriesBits r 139 2
    [x.tramp, x.calibration, x.isolated, x.dryRun, x.fault, x.notRunning, x.overload, x.levelLost, x.downstream] ∧
  CarriesBits r 141 1 [f.gapMove] ∧ CarriesBits r 142 1 [f.gapLoadWait, f.powerHigh] ∧
  Carries r 0
    [(2, 1, gapStateNumber g.state), (3, 1, g.phaseNumbers.1), (4, 1, g.phaseNumbers.2), (5, 2, st.posInUse.getD 0),
      (7, 2, st.pos.p), (10, 4, css.getD 0), (14, 3, g.w), (17, 4, codeOr (fun c => c + g.w) css),
      (21, 2, if st.record.zValid then st.record.z else 0), (23, 4, g.standing.getD 0), (27, 1, g.queue.length),
      (118, 2, g.pSave.getD 0), (132, 1, codeOr faultCauseNumber g.cause), (133, 1, g.onsets.length),
      (134, 1, feedModeNumber f.mode), (135, 2, f.output), (137, 2, f.demand), (143, 2, st.levelReading.getD 0),
      (145, 2, st.power.reading), (147, 1, schedStateNumber st.sched.state), (148, 1, st.sched.index),
      (149, 4, codeOr OpenLot.mass st.lots.lot), (153, 6, st.lots.mass), (159, 2, st.lots.dropped)] ∧
  (∀ k < 4, Carries r (28 + 12 * k) (((g.queue[k]?).map slotFields).getD [(0, 12, 0)])) ∧
  CarriesMove r 76 now (g.move.map fun m => (m, m.pendingSuspend)) ∧
  CarriesMove r 97 now (g.context.map fun c => (c.move, c.suspended)) ∧
  CarriesLastMove r 120 g.lastMove

/-- A history slot, 20 bytes, Wm in two's complement. -/
def histFields (e : HistEntry) : List (Nat × Nat × Nat) :=
  [(0, 2, e.calNumber), (2, 2, e.zOld.getD 0), (4, 2, e.zNew), (6, 4, ((e.wm.getD 0) % 4294967296).toNat), (10, 4, e.mCal),
    (14, 3, e.w), (17, 2, e.r), (19, 1, histFlagNumber e.flag)]

/-- A last calibration result, 13 bytes from `base` on; an absent one is all zero. -/
def CarriesLastCal (r : List Byte) (base : Nat) (x : Option LastCal) : Prop :=
  match x with
  | none => Carries r base [(0, 13, 0)]
  | some c =>
    CarriesBits r base 1 [c.zNew.isSome, c.finalPos.isSome, c.backoffPulses.isSome] ∧
    Carries r base
      [(1, 1, calResultNumber c.result), (2, 2, c.pStart), (4, 2, c.zNew.getD 0), (6, 2, c.finalPos.getD 0),
        (8, 2, c.seekPulses), (10, 1, c.backoffPulses.getD 0), (11, 2, c.calNumber)]

/-- The wear record of 13.5 (R176), field for field. -/
def CarriesWear (r : List Byte) (st : Station) : Prop :=
  CarriesBits r 0 1 [st.record.zValid, st.gap.lastCal.isSome] ∧
  CarriesBits r 15 1 [decide (st.gap.w = st.record.limits.wMax)] ∧
  Carries r 0
    [(1, 2, if st.record.zValid then st.record.z else 0), (3, 2, st.record.r), (5, 4, st.record.mCal), (9, 3, st.gap.w),
      (12, 3, st.record.limits.wMax), (16, 2, st.record.calNumber), (18, 1, st.record.history.length)] ∧
  (∀ k < 8, Carries r (19 + 20 * k) (((st.record.history[k]?).map histFields).getD [(0, 20, 0)])) ∧
  CarriesLastCal r 179 st.gap.lastCal

/-- The lot record of 13.5 (R150), 19 bytes from `base` on. -/
def CarriesLot (r : List Byte) (base : Nat) (l : LotRecord) : Prop :=
  CarriesBits r (base + 8) 1 [l.target.isSome, l.step.isSome, l.meanPower.isSome] ∧
  Carries r base
    [(0, 1, l.station.val), (1, 2, l.number), (3, 4, l.mass), (7, 1, closeReasonNumber l.reason), (9, 4, l.target.getD 0),
      (13, 1, l.step.getD 0), (14, 2, l.meanPower.getD 0), (16, 3, l.w)]

/-- The device record of READ DEVICE (R177), field for field. -/
def State.deviceFields (s : State) : List (Nat × Nat × Nat) :=
  [(0, 1, s.link.addr), (1, 1, if s.link.fast then 2 else 1), (2, 2, s.link.errors), (4, 1, writerNumber s.writer),
    (5, 1, s.pendingWrites.toNat), (6, 1, s.pins.key.toNat), (7, 1, s.lotQueue.length), (8, 1, s.device.presence.toNat)]

/-! ## Laws of the device -/

/-- W agrees with its formula (R27). -/
def Station.WearHolds (st : Station) : Prop :=
  st.gap.w = wearEstimate st.record.limits.wMax st.record.mCal st.record.r

/-- The wear law: at every station W agrees with its formula. -/
def State.WearLaw (s : State) : Prop := ∀ i, (s.st i).WearHolds

/-- The rate range of a feed tuning is not empty (R134). -/
def RateRange (t : FeedTuning) : Prop := t.rateMin ≤ t.rateMax

/-- The feeder is held at 0: mode STOP, or a stop reason (R119). -/
def FeedRegulator.stopped (f : FeedRegulator) : Bool := f.mode == .stop || f.stops.any

/-- The output law at a station (R119): the demand in range, the output rate 0 while stopped and the demand otherwise, a waveform exactly while
the output rate is above 0 (R138). -/
def Station.FeedHolds (st : Station) : Prop :=
  st.record.feedTuning.rateMin ≤ st.feed.demand ∧ st.feed.demand ≤ st.record.feedTuning.rateMax ∧
    st.feed.output = (if st.feed.stopped then 0 else st.feed.demand) ∧
    st.feed.wave.isSome = decide (0 < st.feed.output)

/-- The feed tuning of every valid record of the store has a rate range. -/
def Store.RangesOk (x : Store) : Prop := ∀ i r, x.station i = some r → RateRange r.feedTuning

/-- The feed tuning of a record being written has a rate range. -/
def Writer.RangeOk (w : Writer) : Prop := ∀ i r t, w = .station i r t → RateRange r.feedTuning

/-- The output law of the device (R119), with the rate ranges it rests on (R134). -/
def State.FeedLaw (s : State) : Prop :=
  (∀ i, RateRange (s.st i).record.feedTuning ∧ (s.st i).FeedHolds) ∧ s.store.RangesOk ∧ s.writer.RangeOk

/-- The reasons of a station agree with its gap channel (R62, R95, R120). -/
def Station.ReasonsAgree (st : Station) : Prop :=
  gapStops st.gap st.feed.stops = st.feed.stops ∧ st.feed.gapMove = st.gap.holdsMove ∧
    st.feed.gapLoadWait = st.gap.waitsLoad

/-- The reason law: TRAMP stands exactly in RELIEVED and RESTORING (R95), and the other reasons of the gap channel and the service modes by
the table of R120. -/
def State.ReasonLaw (s : State) : Prop := ∀ i, (s.st i).ReasonsAgree

/-- The wear history of a record (R114, R115): at most 8 entries, each number one more (modulo 65,536) than the one before it, the last the
record's calibration number. -/
def StationRecord.HistoryHolds (r : StationRecord) : Prop :=
  r.history.length ≤ 8 ∧
    (∀ k a b, r.history[k]? = some a → r.history[k + 1]? = some b → b.calNumber = (a.calNumber + 1) % 65536) ∧
    ∀ e, r.history.getLast? = some e → e.calNumber = r.calNumber

/-- The bounds of the lists: 4 entries (R41), 8 onsets (R86), 16 lot records (R149), and the wear histories (R114), those of the store and of
a record being written among them. -/
def State.BoundLaw (s : State) : Prop :=
  s.lotQueue.length ≤ 16 ∧
    (∀ i, (s.st i).gap.queue.length ≤ 4 ∧ (s.st i).gap.onsets.length ≤ 8 ∧ (s.st i).record.HistoryHolds) ∧
    (∀ i r, s.store.station i = some r → r.HistoryHolds) ∧ ∀ i r x, s.writer = .station i r x → r.HistoryHolds

/-- A schedule that neither runs nor has a step waiting for room (R154, R155). -/
def Schedule.AsksNothing (c : Schedule) : Prop := c.state ≠ .running ∧ c.state ≠ .held ∧ c.pending = false

/-- The setting queue of a station agrees with its state (R39, R41): UNREFERENCED has no valid zero; IDLE, MOVING and SUSPENDED have one, and so
has a station with a context; the queue is empty in IDLE, UNREFERENCED, ISOLATED and FAULTED, and without a valid zero; and where nothing may
join it, the schedule asks for nothing. -/
def Station.QueueHolds (st : Station) : Prop :=
  (st.gap.state = .unreferenced → st.record.zValid = false) ∧
    (st.gap.state = .idle ∨ st.gap.state = .moving ∨ st.gap.state = .suspended ∨ st.gap.context.isSome = true →
      st.record.zValid = true) ∧
    (st.gap.state = .idle → st.gap.queue = []) ∧
    (st.record.zValid = false ∨ st.gap.state = .isolated ∨ st.gap.state = .faulted →
      st.gap.queue = [] ∧ st.sched.AsksNothing) ∧
    (st.sched.pending = true → st.sched.state = .held)

/-- The queue law of a running device: it holds at every present station, and the schedule of an absent one asks for nothing (R190). -/
def State.QueueLaw (s : State) : Prop :=
  s.phase = .running → ∀ i, if s.present i = true then (s.st i).QueueHolds else (s.st i).sched.AsksNothing

/-- A valve of a direction is driven: a pulse of the move in flight in that direction, with dry run off (R63). -/
def GapChannel.drives (g : GapChannel) (d : Dir) : Bool :=
  !g.dryRun && match g.move with
    | some m => m.dir == some d && match m.phase with
      | .pulse _ _ => true
      | _ => false
    | none => false

/-- The kinds of move a state and calibration phase hold (R45, R103). -/
def GapChannel.holdsKind (g : GapChannel) : Option (List MoveKind) :=
  match g.state, g.calibration with
  | .moving, none => some [.setting, .trim]
  | .suspended, none => some [.setting, .trim]
  | .restoring, none => some [.restore]
  | .calibrating, some c => match c.phase with
    | .drain => none
    | .seek => some [.seek]
    | .backoff => some [.backoff]
  | _, _ => none

/-- A move is parked: no phase runs. -/
def Move.isParked (m : Move) : Bool := m.phase == .parked

/-- A move waits for load. -/
def Move.waits (m : Move) : Bool :=
  match m.phase with
  | .waitLoad _ _ => true
  | _ => false

/-- The gap channel of a station is whole (R39, R45, R63, R68, R96, R99): a calibration exactly in CALIBRATING; a move exactly in the states that
hold one, of the kind they hold, parked exactly in SUSPENDED, and waiting for load only as a SETTING, TRIM or RESTORE move; a context only in
RELIEVED and RESTORING, holding a SETTING or TRIM move; the hold timer running only in RELIEVED; and each valve output active exactly while
its pulse runs with dry run off. -/
def GapChannel.Whole (g : GapChannel) : Prop :=
  g.calibration.isSome = (g.state == .calibrating) ∧
    (match g.holdsKind with
      | some ks => ∃ m, g.move = some m ∧ m.kind ∈ ks ∧ m.isParked = (g.state == .suspended) ∧
          (m.waits = true → m.kind ≠ .seek ∧ m.kind ≠ .backoff)
      | none => g.move = none) ∧
    (∀ c, g.context = some c →
      (g.state = .relieved ∨ g.state = .restoring) ∧ (c.move.kind = .setting ∨ c.move.kind = .trim)) ∧
    (g.holdTimer.isSome = true → g.state = .relieved) ∧
    g.openOut = g.drives .opening ∧ g.closeOut = g.drives .closing

/-- The valve law: every gap channel is whole. -/
def State.ValveLaw (s : State) : Prop := ∀ i, (s.st i).gap.Whole

end Sys2Proof.Machine
end

