-- ==== Sys2Proof/Certificates/Slice0/Obligations.lean ====
section
/-!
DEFINITION. The statements for the provers. Each docstring names the rules it rests on. A frame is written as an equation: the state after is the state
before with the named fields alone changed; where the chain coupling may reach another feeder (R132), `OthersKept` says so.

Requests are stated under `Hearing` or `HearsFor`: a row stands for a whole frame and is taken where the receiver would take it (the model's
choice, assumption log 7). Where a docstring says "the model's own", that part of the statement is the model's choice and no rule's.
-/

open Sys2Proof Sys2Proof.Machine

/-! ## Steps -/

/-- A step takes the command at the front of the queue and is `exec` of it on the queue's rest; on an empty queue the block idles (the model's
choice, assumption log 2). -/
def Obligations.StepRunsFrontCommand : Prop :=
  (∀ (s : State) (c : Instr) (rest : List Instr),
      step { s with pending := c :: rest } = exec c { s with pending := rest }) ∧
    ∀ s : State, s.pending = [] → step s = .next s

/-! ## Supply, reset and start-up -/

/-- A loss of supply, the reset input and power-on cut the write in progress and lose the STORE sequence and the pending set; every station holds its
power-on values, and the other records stay as they were (R19, R187, R188). The latched address and bit rate stand (R166). The release of the
reset input begins start-up.
The model's own: the link's and the panel's last times and what they hold between power-on and the end of start-up, log 29; the RAM before start-up has
read the store and POWER_ON out of turn, logs 30 and 33 of the assumption log. -/
def Obligations.SupplyCutsWrite : Prop :=
  let lost := fun (s t : State) =>
    (match s.writer with
      | .idle => t.store = s.store
      | .device _ _ => t.store.deviceRecord = none ∧ t.store.stations = s.store.stations
      | .station j _ _ => t.store.station j = none ∧ t.store.device = s.store.device ∧
          ∀ i, i ≠ j → t.store.stations.get i = s.store.stations.get i) ∧
    (∀ i, t.st i = stationFresh stationRecordDefault) ∧ t.writer = .idle ∧ t.storeSeq = [] ∧ t.inSequence = false ∧
    t.pendingWrites = 0#8 ∧ t.lotQueue = [] ∧ t.raised = 0#36 ∧ t.masks = 0#36 ∧
    t.link = { linkFresh with addr := s.link.addr, fast := s.link.fast } ∧ t.panel = panelFresh ∧ t.pending = s.pending
  (∀ s dt, Takes (.supplyLoss dt) s fun t => t.clock = s.clock + dt ∧ t.phase = .off ∧ lost s t ∧ t.pins = s.pins) ∧
  (∀ s dt, Takes (.powerOn dt) s fun t =>
    t.clock = s.clock + dt ∧ t.phase = (if s.pins.reset then .reset else .startUp) ∧ lost s t ∧ t.pins = s.pins) ∧
  (∀ s dt, s.phase ≠ .off → Takes (.resetInput dt) s fun t =>
    t.clock = s.clock + dt ∧ t.phase = .reset ∧ lost s t ∧ t.pins = { s.pins with reset := true }) ∧
  (∀ s dt, s.phase = .reset → Takes (.resetRelease dt) s fun t =>
    t = { s with clock := s.clock + dt, phase := .startUp, pins := { s.pins with reset := false } })

/-- Start-up ends (R166, R188): the address and rate are latched, the records read, each present station enters IDLE or UNREFERENCED by its zero
reference with an empty queue and no move, its control interval timer starts, POWER ON is raised, and STORE LOST for each station whose record
is invalid.
The model's own: the link's time of the last character, log 29 of the assumption log. -/
def Obligations.StartUpEnds : Prop :=
  ∀ (s : State) (dt : Ticks) (addr : BitVec 5) (rate : Bool), s.phase = .startUp →
    Takes (.startUpEnd dt addr rate) s fun t =>
      t.phase = .running ∧ t.clock = s.clock + dt ∧ t.epoch = t.clock ∧ t.runningTime = 0 ∧
      t.link = { linkFresh with addr := addr.toNat, fast := rate, lastChar := t.clock } ∧
      t.device = s.store.deviceRecord.getD deviceRecordDefault ∧ t.store = s.store ∧ t.masks = 0#36 ∧ t.lotQueue = [] ∧
      t.Raised 32 ∧ (∀ i : StationId, t.Raised (8 * i.val + 7) ↔ s.store.station i = none) ∧
      (∀ i, (t.st i).record = (s.store.station i).getD stationRecordDefault ∧
        (t.st i).gap.w = wearEstimate (t.st i).record.limits.wMax (t.st i).record.mCal (t.st i).record.r ∧
        (t.st i).lots = lotAccumulatorFresh ∧ (t.st i).sched = scheduleFresh) ∧
      ∀ i, t.present i = true →
        (t.st i).gap = { gapChannelFresh (t.st i).record with state := restState (t.st i).record.zValid } ∧
        (t.st i).feed.mode = .stop ∧ (t.st i).feed.output = 0 ∧
        (t.st i).feed.controlTimer = some (t.clock + msTicks (t.st i).record.feedTuning.controlInterval)

/-! ## Measurement channels -/

/-- An interrogation is issued at the next 5 ms interrogation time and opens a capture; the leading edge within 1 ms of it starts the width count, and a later
one is disregarded (R1, R18).
The model's own: the moment taken, logs 2, 18 and 25 of the assumption log. -/
def Obligations.InterrogationOpensCapture : Prop :=
  (∀ (s : State) (i : StationId), s.Serving i → s.epoch ≤ s.clock →
    Takes (.positionInterrogation i) s fun t =>
      s.clock ≤ t.clock ∧ (s.st i).pos.nextAt ≤ t.clock ∧ t.clock < max s.clock (s.st i).pos.nextAt + 200000 ∧
      200000 ∣ t.clock - s.epoch ∧
      t = s.stationAt t.clock i { s.st i with pos := { (s.st i).pos with
            capture := .waiting t.clock, pulsedAt := some t.clock, nextAt := t.clock + 200000 } }) ∧
  (∀ (s : State) (i : StationId) (dt since : Ticks), s.Serving i → (s.st i).pos.capture = .waiting since →
    Takes (.posReturnLeadingEdge dt i) s fun t =>
      t = if s.clock + dt ≤ since + 40000 then
          s.stationAt (s.clock + dt) i
            { s.st i with pos := { (s.st i).pos with capture := .counting (s.clock + dt) } }
        else { s with clock := s.clock + dt })

/-- The trailing edge of a width w in [W0, W0 + 65,535] sets P to w - W0, position valid to 1 and the invalid-sample run to 0, and closes the capture (R1, R2);
a simulated position that a dry run left is discarded (R158). -/
def Obligations.ValidWidthSetsPosition : Prop :=
  ∀ (s : State) (i : StationId) (dt since : Ticks), s.Serving i → (s.st i).pos.capture = .counting since →
    (s.st i).record.gapTuning.w0 ≤ s.clock + dt - since →
    s.clock + dt - since ≤ (s.st i).record.gapTuning.w0 + 65535 →
    Takes (.posReturnTrailingEdge dt i) s fun t =>
      t = s.stationAt (s.clock + dt) i
        { s.st i with
          pos := { (s.st i).pos with
            p := s.clock + dt - since - (s.st i).record.gapTuning.w0
            valid := true, seen := true, run := 0, capture := .closed }
          gap := { (s.st i).gap with sim := if (s.st i).gap.dryRun then (s.st i).gap.sim else none } }

/-- No return within 1 ms, a width count that reaches W0 + 65,536, and a width below W0 are invalid samples: P is kept and the run counts up to 3. Position
valid is cleared by the third alone, and no fault follows another sample than the third, or while dry run is on (R1 to R4).
The model's own: the moment taken, log 2 of the assumption log. -/
def Obligations.InvalidSamplesCounted : Prop :=
  let counted := fun (s : State) (c : Ticks) (i : StationId) =>
    s.stationAt c i
      { s.st i with
        pos := { (s.st i).pos with
          valid := (s.st i).pos.valid && (s.st i).pos.run != 2
          run := min 3 ((s.st i).pos.run + 1), capture := .closed }
        gap := { (s.st i).gap with sim := if (s.st i).gap.dryRun then (s.st i).gap.sim else none } }
  ∀ (s : State) (i : StationId) (since : Ticks), s.Serving i →
    (s.st i).pos.run ≠ 2 ∨ (s.st i).gap.dryRun = true →
    ((s.st i).pos.capture = .waiting since →
      Takes (.noReturnTimeout i) s fun t => t = counted s (max s.clock (since + 40000)) i) ∧
    ((s.st i).pos.capture = .counting since →
      Takes (.widthTooLong i) s (fun t =>
        t = counted s (max s.clock (since + (s.st i).record.gapTuning.w0 + 65536)) i) ∧
      ∀ dt, s.clock + dt - since < (s.st i).record.gapTuning.w0 →
        Takes (.posReturnTrailingEdge dt i) s fun t => t = counted s (s.clock + dt) i)

/-- The third invalid sample, by whatever of the three events it comes (R1, R2), clears position valid and hands a position-lost event (R3, R164). Outside
ISOLATED and FAULTED the station goes FAULTED with cause POSITION_LOST: its queue, move, context, calibration and relief are gone, the schedule is
stopped, FAULT stands and is raised, and the feeder is at 0; the standing target and the onset list are kept. An ISOLATED station keeps its gap
channel and raises nothing; a FAULTED one takes the cause and raises FAULT. The open lot and the record are kept.
The model's own: the moment taken, log 2 of the assumption log. -/
def Obligations.ThirdInvalidSampleFaults : Prop :=
  ∀ (s : State) (i : StationId) (since : Ticks), s.Serving i → (s.st i).pos.run = 2 → (s.st i).gap.dryRun = false →
    (s.st i).gap.Whole → (s.st i).FeedHolds →
    let lost := fun (c : Ticks) (t : State) =>
      t.clock = c ∧ (t.st i).pos = { (s.st i).pos with valid := false, run := 3, capture := .closed } ∧
      (t.st i).lots = (s.st i).lots ∧ (t.st i).record = (s.st i).record ∧ (t.st i).feed.output = 0 ∧
      s.SameDevice t ∧ s.OthersKept t i ∧
      if (s.st i).gap.state = .isolated then
        (t.st i).gap = { (s.st i).gap with sim := none } ∧ (t.st i).sched = (s.st i).sched ∧ t.raised = s.raised
      else if (s.st i).gap.state = .faulted then
        (t.st i).gap = { (s.st i).gap with sim := none, cause := some .positionLost } ∧
        (t.st i).sched = (s.st i).sched ∧ t.raised = s.raised ||| sourceBit (8 * i.val + 3)
      else
        (t.st i).gap.state = .faulted ∧ (t.st i).gap.cause = some .positionLost ∧ (t.st i).gap.queue = [] ∧
        (t.st i).gap.move = none ∧ (t.st i).gap.context = none ∧ (t.st i).gap.calibration = none ∧
        (t.st i).gap.pSave = none ∧ (t.st i).gap.noRestore = false ∧ (t.st i).gap.holdTimer = none ∧
        (t.st i).gap.openOut = false ∧ (t.st i).gap.closeOut = false ∧
        (t.st i).sched = scheduleStopped (s.st i).sched ∧ (t.st i).feed.stops.fault = true ∧
        (t.st i).gap.standing = (s.st i).gap.standing ∧ (t.st i).gap.onsets = (s.st i).gap.onsets ∧
        t.Raised (8 * i.val + 3)
    ((s.st i).pos.capture = .waiting since →
      Takes (.noReturnTimeout i) s (lost (max s.clock (since + 40000)))) ∧
    ((s.st i).pos.capture = .counting since →
      Takes (.widthTooLong i) s (lost (max s.clock (since + (s.st i).record.gapTuning.w0 + 65536))) ∧
      ∀ dt, s.clock + dt - since < (s.st i).record.gapTuning.w0 →
        Takes (.posReturnTrailingEdge dt i) s (lost (s.clock + dt)))

/-- A trigger is issued at the next 100 ms trigger time and opens the echo window (R5, R18). The first edge inside the window ends it: an echo of 600 to
40,000 µs gives the level H_mount - d clamped to [0, H_mount] and clears the run (R6, R7), and regains a lost level: LEVEL_LOST is removed and the
previous level error is absent (R8, R131); any other echo time is an invalid echo, counted in the run, and the third makes the level lost (R6, R7).
A valid echo and the loss of the level have the drain condition evaluated (R104, R105). An edge at the window's end or after it is disregarded (R5).
The model's own: the moment taken, logs 2 and 25 of the assumption log. -/
def Obligations.EchoGivesLevel : Prop :=
  (∀ (s : State) (i : StationId), s.Serving i → s.epoch ≤ s.clock →
    Takes (.echoTrigger i) s fun t =>
      s.clock ≤ t.clock ∧ (s.st i).level.nextAt ≤ t.clock ∧ t.clock < max s.clock (s.st i).level.nextAt + 4000000 ∧
      4000000 ∣ t.clock - s.epoch ∧
      t = s.stationAt t.clock i { s.st i with level := { (s.st i).level with
            window := some t.clock, pulsedAt := some t.clock, nextAt := t.clock + 4000000 } }) ∧
  (∀ (s : State) (i : StationId) (dt since : Ticks), s.Serving i → (s.st i).level.window = some since →
    s.clock + dt < since + 2000000 → 600 ≤ (s.clock + dt - since) / 40 → (s.clock + dt - since) / 40 ≤ 40000 →
    Takes (.echoRisingEdge dt i) s fun t =>
      let level := { (s.st i).level with
        last := some (clampTo 0 (s.st i).record.feedTuning.hMount
          ((s.st i).record.feedTuning.hMount - ((s.clock + dt - since) / 40 * 343 + 1000) / 2000))
        run := 0, lost := false, window := none
        lostTimer := if (s.st i).level.lost then none else (s.st i).level.lostTimer }
      let gap := (s.st i).drainTaken (s.clock + dt) (s.st i).power.reading level.last
      (t.st i).level = level ∧ t.clock = s.clock + dt ∧ (t.st i).gap = gap ∧
      ((s.st i).level.lost = false →
        t = s.stationAt (s.clock + dt) i { s.st i with level := level, gap := gap }) ∧
      ((s.st i).level.lost = true →
        (t.st i).feed.stops.levelLost = false ∧ (t.st i).feed.prevError = none ∧ s.SameDevice t ∧ s.OthersKept t i)) ∧
  (∀ (s : State) (i : StationId) (dt since : Ticks), s.Serving i → (s.st i).level.window = some since →
    s.clock + dt < since + 2000000 →
    (s.clock + dt - since) / 40 < 600 ∨ 40000 < (s.clock + dt - since) / 40 →
    Takes (.echoRisingEdge dt i) s fun t =>
      t.clock = s.clock + dt ∧ (t.st i).level.last = (s.st i).level.last ∧
      (t.st i).level.run = min 3 ((s.st i).level.run + 1) ∧ (t.st i).level.window = none ∧
      ((s.st i).level.run = 2 → (t.st i).level.lost = true ∧ (t.st i).levelReading = none ∧
        t.raised = s.raised ||| sourceBit (8 * i.val + 5) ∧ s.SameDevice t ∧ s.OthersKept t i ∧
        (t.st i).gap = (s.st i).drainTaken t.clock (s.st i).power.reading none ∧
        (t.st i).level.lostTimer = some (t.clock + secTicks (s.st i).record.feedTuning.levelLostTimeout)) ∧
      ((s.st i).level.run ≠ 2 →
        t = s.stationAt t.clock i { s.st i with level := { (s.st i).level with
              run := min 3 ((s.st i).level.run + 1), window := none } })) ∧
  ∀ (s : State) (i : StationId) (dt since : Ticks), s.Serving i → (s.st i).level.window = some since →
    since + 2000000 ≤ s.clock + dt →
    Takes (.echoRisingEdge dt i) s fun t => t = { s with clock := s.clock + dt }

/-- An echo window that ends without an echo counts in the run; the third raises LEVEL LOST, makes the level absent, starts the lost timer and has the drain
condition evaluated (R5, R7, R104, R105). At the timer's expiry with the level still lost, LEVEL_LOST stops the feeder (R8, R131, R121).
The model's own: the moment taken, log 2 of the assumption log. -/
def Obligations.LostLevelStopsFeed : Prop :=
  (∀ (s : State) (i : StationId) (since : Ticks), s.Serving i → (s.st i).level.window = some since →
    Takes (.echoWindowExpiry i) s fun t =>
      t.clock = max s.clock (since + 2000000) ∧ (t.st i).level.last = (s.st i).level.last ∧
      (t.st i).level.run = min 3 ((s.st i).level.run + 1) ∧ (t.st i).level.window = none ∧
      ((s.st i).level.run = 2 → (t.st i).level.lost = true ∧ (t.st i).levelReading = none ∧ t.Raised (8 * i.val + 5) ∧
        (t.st i).gap = (s.st i).drainTaken t.clock (s.st i).power.reading none ∧
        (t.st i).level.lostTimer = some (t.clock + secTicks (s.st i).record.feedTuning.levelLostTimeout)) ∧
      ((s.st i).level.run ≠ 2 →
        t = s.stationAt t.clock i { s.st i with level := { (s.st i).level with
              run := min 3 ((s.st i).level.run + 1), window := none } })) ∧
  (∀ (s : State) (i : StationId) (e : Ticks), s.Serving i → (s.st i).level.lostTimer = some e →
    (s.st i).level.lost = true → (s.st i).FeedHolds →
    Takes (.levelLostTimeout i) s fun t =>
      (t.st i).level = { (s.st i).level with lostTimer := none } ∧ (t.st i).feed.stops.levelLost = true ∧
      (t.st i).feed.output = 0 ∧ (t.st i).gap = (s.st i).gap ∧ (t.st i).record = (s.st i).record ∧
      t.raised = s.raised ∧ s.SameDevice t ∧ s.OthersKept t i)

/-- A pulse that completes a power period sets the reading to floor(E_p × 10,000 / period) limited to 65,535 and the fresh flag to 1; the first pulse opens
a period and leaves both (R9, R10); each pulse restarts the stale timer (R11). A completed period is a power event: a move in WAIT_LOAD waits on, ends
COMPLETE or gives a pulse by the reading and the position (R12, R73), and in DRAIN the drain condition is evaluated (R104, R105). TUNE FEED does not recompute the held reading (R10).
The time of the last accepted edge is kept to 1 µs (R9). A stage that needs the position does not run where there is none in use (R23).
The model's own: the whole microseconds of the clock, rounded down, as the kept time of an edge, log 19, and a move in WAIT_LOAD that waits on,
whatever the reading, where there is no position in use, log 10 of the assumption log. -/
def Obligations.PowerPulseSetsReading : Prop :=
  (∀ (s : State) (i : StationId) (dt : Ticks), s.Serving i → (s.st i).power.openPeriod = true →
    Takes (.powerPulse dt i) s fun t =>
      let power : PowerChannel :=
        { reading := min 65535 ((s.st i).record.feedTuning.ep * 10000 /
            max 1 ((s.clock + dt - (s.st i).power.lastEdge * 40) / 40))
          fresh := true, openPeriod := true, lastEdge := (s.clock + dt) / 40
          staleTimer := some (s.clock + dt + secTicks 2) }
      (t.st i).power = power ∧ t.clock = s.clock + dt ∧ s.TakesPower t i power) ∧
  (∀ (s : State) (i : StationId) (dt : Ticks), s.Serving i → (s.st i).power.openPeriod = false →
    Takes (.powerPulse dt i) s fun t =>
      t = s.stationAt (s.clock + dt) i { s.st i with power := { (s.st i).power with
            openPeriod := true, lastEdge := (s.clock + dt) / 40, staleTimer := some (s.clock + dt + secTicks 2) } }) ∧
  (∀ (s : State) (i : StationId) (dt : Ticks) (v : FeedTuning), s.HearsFor i →
    Takes (.tuneFeed dt i.val v) s fun t => (t.st i).power = (s.st i).power)

/-- 2 s without a pulse set the reading to 0 and the fresh flag to 0 and close the period (R11). That is a power event with a reading of 0, which permits
a move in WAIT_LOAD whose station has a position in use: it ends COMPLETE within the deadband, and otherwise gives a pulse toward P_t from that
position, sized by R37 (R12, R73); in DRAIN the drain condition is evaluated (R104, R105). A stage that needs the position does not run where there is
none in use (R23).
The model's own: the moment taken, log 2, and a move in WAIT_LOAD that waits on where there is no position in use, log 10 of the assumption log. -/
def Obligations.StaleReadingIsZero : Prop :=
  ∀ (s : State) (i : StationId) (e : Ticks), s.Serving i → (s.st i).power.staleTimer = some e →
    Takes (.staleExpiry i) s fun t =>
      let power := { (s.st i).power with reading := 0, fresh := false, openPeriod := false, staleTimer := none }
      (t.st i).power = power ∧ t.clock = max s.clock e ∧ s.TakesPower t i power

/-- An accepted scale pulse of mass m adds m to M_cal, which stays at 4,294,967,295, and W follows its formula; WEAR LIMIT is raised where W comes to Wmax,
and a crossed wear checkpoint requests a write of the record (R15, R25, R27, R28, R186). The mass counter gains m, where the sum is within its range,
and is within its range elsewhere (R148). In IDLE the trim check runs: where E reaches the standing target plus the threshold and the flag is
clear, a TRIM move begins (R47). A lot opens where none is, with its number, size, target and step (R142), and takes the mass; below its size it
runs on with its lean timer, at its size it closes FULL into the lot queue, and a schedule RUNNING in AUTO advances (R143, R146, R153).
The model's own: the moment and the transition row, log 6, the mass counter beyond its range, a free value, log 17, and the advance by a lot that was
opened before the START, log 37 of the assumption log. -/
def Obligations.ScalePulseDelivers : Prop :=
  (∀ (s : State) (i : StationId) (dt run : Nat), s.Serving i → (s.st i).scale = .defined false run →
    Takes (.scalePulse dt i) s fun t =>
      let m := (s.st i).record.feedTuning.scaleMass
      let mCal := min 4294967295 ((s.st i).record.mCal + m)
      s.clock + dt ≤ t.clock ∧ (t.st i).scale = .defined true 0 ∧
      (t.st i).record = { (s.st i).record with mCal := mCal } ∧
      (t.st i).gap.w = wearEstimate (s.st i).record.limits.wMax mCal (s.st i).record.r ∧
      ((s.st i).gap.w ≠ (s.st i).record.limits.wMax → (t.st i).gap.w = (s.st i).record.limits.wMax →
        t.Raised (8 * i.val + 4)) ∧
      (if s.device.checkpoint ≠ 0 ∧ (s.st i).record.mCal / s.device.checkpoint < mCal / s.device.checkpoint then
        (s.writer = .idle → t.writer = .station i (t.st i).record t.clock ∧ t.inSequence = false ∧
          t.pendingWrites = s.pendingWrites) ∧
        (s.writer ≠ .idle → t.writer = s.writer ∧ t.inSequence = s.inSequence ∧
          ∀ j, setHas t.pendingWrites j = (setHas s.pendingWrites j || (j == i && !s.storeSeq.contains i)))
      else t.writer = s.writer ∧ t.inSequence = s.inSequence ∧ t.pendingWrites = s.pendingWrites) ∧
      ((s.st i).lots.mass + m ≤ 281474976710655 → (t.st i).lots.mass = (s.st i).lots.mass + m) ∧
      ((s.st i).lots.mass + m > 281474976710655 → (t.st i).lots.mass ≤ 281474976710655) ∧
      (t.st i).pos = (s.st i).pos ∧ (t.st i).level = (s.st i).level ∧ (t.st i).power = (s.st i).power ∧
      (t.st i).tramp = (s.st i).tramp ∧ (t.st i).gap.standing = (s.st i).gap.standing ∧ s.OthersKept t i ∧
      t = { s with
        clock := t.clock, stations := t.stations, raised := t.raised, lotQueue := t.lotQueue, writer := t.writer
        inSequence := t.inSequence, pendingWrites := t.pendingWrites }) ∧
  (∀ (s : State) (i : StationId) (dt run : Nat), s.Serving i → (s.st i).scale = .defined false run →
    (s.st i).gap.state = .idle → (s.st i).gap.queue = [] → (s.st i).sched.pending = false →
    (s.st i).sched.state ≠ .running →
    Takes (.scalePulse dt i) s fun t =>
      let r := (s.st i).record
      let w := wearEstimate r.limits.wMax (min 4294967295 (r.mCal + r.feedTuning.scaleMass)) r.r
      match (s.st i).gap.standing, (s.st i).posInUse with
      | some target, some p =>
        if r.zValid = true ∧ r.gapTuning.trimThreshold ≠ 0 ∧ (s.st i).gap.trimInhibit = false ∧
            target + r.gapTuning.trimThreshold ≤ geometricCss r.z r.gapTuning.k p + w then
          let eff := clampTo r.limits.cssMin r.limits.cssMax target
          let raw := r.z - ((eff - w) * 256 + r.gapTuning.k / 2) / r.gapTuning.k
          let pt := clampTo r.limits.pMin r.limits.pMax raw
          (t.st i).feed.gapMove = true ∧
          (t.st i).gap = { (s.st i).gap with
            state := .moving, w := w
            move := some
              { kind := .trim, origin := some .trim, tag := none, eff := some eff, pt := some pt
                strokeClamped := pt != raw, phase := .settle (t.clock + msTicks r.gapTuning.settle), dir := none
                pBefore := none, pulses := 0, noProgress := 0, pendingSuspend := false, dwell := none
                loadWaited := 0 } }
        else (t.st i).gap = { (s.st i).gap with w := w }
      | _, _ => (t.st i).gap = { (s.st i).gap with w := w }) ∧
  ∀ (s : State) (i : StationId) (dt run w : Nat), s.Serving i → (s.st i).scale = .defined false run →
    w = wearEstimate (s.st i).record.limits.wMax
      (min 4294967295 ((s.st i).record.mCal + (s.st i).record.feedTuning.scaleMass)) (s.st i).record.r →
    ((s.st i).gap.state = .idle → (s.st i).dueTrim { (s.st i).gap with w := w } = none) →
    Takes (.scalePulse dt i) s fun t =>
      let g := (s.st i).gap
      let c := (s.st i).sched
      let held := (s.st i).lots
      let setAside := match g.context with
        | some x => x.move.eff
        | none => g.standing
      let lot : OpenLot := held.lot.getD
        { number := held.nextNumber
          size := if c.state = .running then (c.steps[c.index]?.map ScheduleStep.lotSize).getD s.device.lotSize
            else s.device.lotSize
          target := match g.move with
            | some m => if m.kind = .setting ∨ m.kind = .trim then m.eff else setAside
            | none => setAside
          step := if c.state = .running then some (c.index + 1) else none
          mass := 0, powerSum := 0, freshCount := 0, intervals := 0 }
      let mass := lot.mass + (s.st i).record.feedTuning.scaleMass
      (t.st i).lots.nextNumber = (if held.lot = none then (held.nextNumber + 1) % 65536 else held.nextNumber) ∧
      (mass < lot.size →
        (t.st i).lots.lot = some { lot with mass := mass } ∧
        (t.st i).lots.leanTimer = some (t.clock + secTicks s.device.leanTime) ∧ t.lotQueue = s.lotQueue ∧
        (t.st i).sched = c) ∧
      (lot.size ≤ mass →
        let record : LotRecord :=
          { station := i, number := lot.number, mass := mass, reason := .full, target := lot.target, step := lot.step
            meanPower := if 1 ≤ lot.freshCount ∧ lot.intervals ≤ 2 * lot.freshCount then
                some ((lot.powerSum + lot.freshCount / 2) / lot.freshCount) else none
            w := w }
        (t.st i).lots.lot = none ∧ (t.st i).lots.leanTimer = none ∧
        (if s.lotQueue.length < 16 then
          t.lotQueue = s.lotQueue ++ [record] ∧ (s.lotQueue = [] → t.Raised 33) ∧
            (t.st i).lots.dropped = held.dropped
        else t.lotQueue = s.lotQueue ∧ t.Raised 34 ∧ (t.st i).lots.dropped = min 65535 (held.dropped + 1)) ∧
        (c.state ≠ .running ∨ c.mode ≠ .auto → (t.st i).sched = c) ∧
        (c.state = .running → c.mode = .auto → g.state ≠ .idle → g.queue.length < 4 →
          (∀ p, c.steps[c.index + 1]? = some p →
            let eff := clampTo (s.st i).record.limits.cssMin (s.st i).record.limits.cssMax p.target
            (t.st i).sched = { c with index := c.index + 1 } ∧
            (t.st i).gap = { g with
              w := w
              queue := g.queue ++
                [{ requested := p.target, effective := eff, clamped := eff != p.target, origin := .schedule
                   tag := none, step := some (c.index + 2) }] }) ∧
          (c.steps.length ≤ c.index + 1 → c.cyclic = false →
            (t.st i).sched = { c with state := .ended } ∧ (t.st i).gap = { g with w := w } ∧
            t.Raised (8 * i.val + 6))))

/-- The filters (R13, R14, R16): the third equal sample defines an undefined scale filter and counts no pulse; an accepted transition to inactive delivers
nothing. At a tick of the filter clock every filter of every present station takes its sample: at a defined filter a sample equal to the accepted level
clears the run, a first or second differing one counts, and the third changes the accepted level; at an undefined scale filter equal samples count
and a differing one begins the count afresh. An accepted scale pulse adds its mass to M_cal, an accepted tramp onset is listed and raises
TRAMP, an accepted clearance in RELIEVED starts the relief hold (R15, R86, R98), and a tick that accepts nothing changes the filters alone.
The model's own: the order of the samples and the transition rows, log 6 of the assumption log. -/
def Obligations.FiltersCountSamples : Prop :=
  (∀ (s : State) (i : StationId) (dt : Ticks) (l last : Bool) (n : Nat), s.Serving i →
    (s.st i).scale = .undefined last n →
    Takes (.scaleFilterDefined dt i l) s fun t =>
      s.clock + dt ≤ t.clock ∧ t = s.stationAt t.clock i { s.st i with scale := .defined l 0 }) ∧
  (∀ (s : State) (i : StationId) (dt : Ticks) (run : Nat), s.Serving i → (s.st i).scale = .defined true run →
    Takes (.scaleInactiveTransition dt i) s fun t =>
      s.clock + dt ≤ t.clock ∧ t = s.stationAt t.clock i { s.st i with scale := .defined false 0 }) ∧
  (∀ (s : State) (samples : List FilterSample), s.phase = .running → (Instr.filterClockTick samples).wellFormed = true →
    Takes (.filterClockTick samples) s fun t =>
      s.clock ≤ t.clock ∧ s.filterLast < t.clock ∧ t.filterLast = t.clock ∧
      (match s.device.filterClock with
        | .khz1 => 40000
        | .hz250 => 160000) ∣ t.clock - s.filterBase ∧
      (∀ x ∈ samples, s.present x.station = true →
        let a := s.st x.station
        let b := t.st x.station
        match x.input with
        | .scale =>
          t.pins.scale.get x.station = x.level ∧
          b.scale = (match a.scale with
            | .undefined last n =>
              if n = 0 ∨ last ≠ x.level then .undefined x.level 1
              else if n < 2 then .undefined x.level (n + 1) else .defined x.level 0
            | .defined accepted run =>
              if x.level = accepted then .defined accepted 0
              else if run < 2 then .defined accepted (run + 1) else .defined x.level 0) ∧
          b.record = { a.record with mCal := match a.scale with
            | .defined false run =>
              if x.level = true ∧ 2 ≤ run then min 4294967295 (a.record.mCal + a.record.feedTuning.scaleMass)
              else a.record.mCal
            | _ => a.record.mCal }
        | .tramp =>
          t.pins.tramp.get x.station = x.level ∧
          b.tramp = (if x.level = a.tramp.level then { a.tramp with run := 0 }
            else if a.tramp.run < 2 then { a.tramp with run := a.tramp.run + 1 } else { level := x.level, run := 0 }) ∧
          b.gap.onsets = (if x.level = true ∧ a.tramp.level = false ∧ 2 ≤ a.tramp.run ∧ a.gap.dryRun = false then
              listOnset a.record.gapTuning.trampWindow t.runningTime a.gap.onsets
            else a.gap.onsets) ∧
          (x.level = true → a.tramp.level = false → 2 ≤ a.tramp.run → a.gap.dryRun = false →
            t.Raised (8 * x.station.val + 2)) ∧
          (x.level = false → a.tramp.level = true → 2 ≤ a.tramp.run → a.gap.dryRun = false →
            a.gap.state = .relieved → b.gap.holdTimer = some (t.clock + secTicks a.record.gapTuning.reliefHold))) ∧
      (∀ j, s.present j = false → t.st j = s.st j) ∧
      ((∀ j, (s.st j).tramp.run < 2 ∧ (match (s.st j).scale with
          | .defined _ run => decide (run < 2)
          | .undefined _ _ => true) = true) →
        (∀ j, t.st j = { s.st j with scale := (t.st j).scale, tramp := (t.st j).tramp }) ∧
        t = { s with clock := t.clock, filterLast := t.clock, stations := t.stations, pins := t.pins }))

/-! ## Tramp -/

/-- A tramp onset that passes the repeat check makes the station RELIEVED from every state but ISOLATED and FAULTED (R86, R89 to R93, R95): the onset is listed, TRAMP is raised and
stands, the feeder is at 0 and the hold timer is stopped. From IDLE and UNREFERENCED, and from MOVING and SUSPENDED, P_save is the position in use;
a move is set aside in the context and does not end (R91, R96). From CALIBRATING the calibration ends CAL_ABORTED and P_save is its P_start (R92). In
RELIEVED and RESTORING, P_save, the no-restore mark and the context stand, and a restore is dropped without a result (R93).
The model's own: the transition row, log 6 of the assumption log. -/
def Obligations.TrampOnsetRelieves : Prop :=
  ∀ (s : State) (i : StationId) (dt : Ticks), s.Serving i → (s.st i).tramp.level = false →
    (s.st i).gap.dryRun = false → (s.st i).gap.onsets.length + 1 < (s.st i).record.gapTuning.trampLimit →
    (s.st i).gap.state ≠ .isolated → (s.st i).gap.state ≠ .faulted → (s.st i).gap.Whole → (s.st i).FeedHolds →
    Takes (.trampOnset dt i) s fun t =>
      let g := (s.st i).gap
      let g' := (t.st i).gap
      (t.st i).tramp = { level := true, run := 0 } ∧ g'.state = .relieved ∧ g'.holdTimer = none ∧
      g'.onsets = listOnset (s.st i).record.gapTuning.trampWindow t.runningTime g.onsets ∧
      t.Raised (8 * i.val + 2) ∧ (t.st i).feed.stops.tramp = true ∧ (t.st i).feed.output = 0 ∧
      g'.queue = g.queue ∧ g'.standing = g.standing ∧ g'.lastMove = g.lastMove ∧ g'.move = none ∧
      g'.calibration = none ∧ g'.openOut = false ∧ g'.closeOut = false ∧
      (t.st i).record = (s.st i).record ∧ (t.st i).lots = (s.st i).lots ∧ s.SameDevice t ∧ s.OthersKept t i ∧
      (if g.state = .relieved ∨ g.state = .restoring then
        g'.pSave = g.pSave ∧ g'.noRestore = g.noRestore ∧ g'.context = g.context ∧ g'.lastCal = g.lastCal
      else
        g'.noRestore = false ∧
        (match g.calibration with
          | none => g'.pSave = (s.st i).posInUse ∧ g'.lastCal = g.lastCal
          | some c => g'.pSave = some c.pStart ∧ t.Raised (8 * i.val + 1) ∧
              ∃ x, g'.lastCal = some x ∧ x.result = .aborted ∧ x.pStart = c.pStart) ∧
        (if g.state = .moving ∨ g.state = .suspended then
          ∃ m, g.move = some m ∧ ∃ c, g'.context = some c ∧ c.suspended = decide (g.state = .suspended) ∧
            c.move = { m with
              phase := .parked, dwell := none, pendingSuspend := false, loadWaited := c.move.loadWaited }
        else g'.context = none))

/-- The repeat check (R87, R88, R94): an onset that brings the list to the tramp limit faults the station with cause TRAMP_REPEAT, except in ISOLATED and FAULTED,
where an onset is listed and raises TRAMP and changes no state.
The model's own: the transition row, log 6 of the assumption log. -/
def Obligations.TrampRepeatFaults : Prop :=
  ∀ (s : State) (i : StationId) (dt : Ticks), s.Serving i → (s.st i).tramp.level = false →
    (s.st i).gap.dryRun = false →
    Takes (.trampOnset dt i) s fun t =>
      (t.st i).gap.onsets =
        listOnset (s.st i).record.gapTuning.trampWindow t.runningTime (s.st i).gap.onsets ∧
      t.Raised (8 * i.val + 2) ∧
      (if (s.st i).gap.state = .isolated ∨ (s.st i).gap.state = .faulted then
        (t.st i).gap = { (s.st i).gap with onsets := (t.st i).gap.onsets }
      else (s.st i).record.gapTuning.trampLimit ≤ (t.st i).gap.onsets.length →
        (t.st i).gap.state = .faulted ∧ (t.st i).gap.cause = some .trampRepeat ∧ (t.st i).gap.queue = [] ∧
        (t.st i).feed.stops.fault = true ∧ t.Raised (8 * i.val + 3))

/-- A tramp clearance starts the relief hold in RELIEVED and does nothing elsewhere, whether it comes from the filter or from the end of a TEST TRAMP (R98, R160).
At the hold's expiry a RESTORE toward P_save is formed (R100); with the no-restore mark set the relief ends: the context's move continues, or the
station goes to IDLE, where the oldest entry is activated or a due trim begins, or to UNREFERENCED (R99, R101, R40, R44, R47). At each whole second the entries older than the tramp window leave the list (R86).
The model's own: the moment taken, logs 2 and 6 of the assumption log. -/
def Obligations.ClearanceHoldAndAgeing : Prop :=
  (∀ (s : State) (i : StationId) (dt : Ticks), s.Serving i → (s.st i).tramp.level = true →
    (s.st i).gap.dryRun = false →
    Takes (.trampClearance dt i) s fun t =>
      s.clock + dt ≤ t.clock ∧
      t = s.stationAt t.clock i
        { s.st i with
          tramp := { level := false, run := 0 }
          gap := if (s.st i).gap.state = .relieved then
              { (s.st i).gap with holdTimer := some (t.clock + secTicks (s.st i).record.gapTuning.reliefHold) }
            else (s.st i).gap }) ∧
  (∀ (s : State) (i : StationId) (e : Ticks), s.Serving i → (s.st i).gap.testTimer = some e →
    Takes (.testTrampExpiry i) s fun t =>
      t = s.stationAt (max s.clock e) i
        { s.st i with gap := { (s.st i).gap with
            testTimer := none, simTramp := false
            holdTimer := if (s.st i).gap.state = .relieved then
                some (max s.clock e + secTicks (s.st i).record.gapTuning.reliefHold)
              else (s.st i).gap.holdTimer } }) ∧
  (∀ (s : State) (i : StationId) (e p : Nat), s.Serving i → (s.st i).gap.holdTimer = some e →
    (s.st i).gap.pSave = some p → (s.st i).gap.noRestore = false →
    Takes (.reliefHoldExpiry i) s fun t =>
      t.clock = max s.clock e ∧ s.SameDevice t ∧ s.OthersKept t i ∧ (t.st i).record = (s.st i).record ∧
      (t.st i).gap = { (s.st i).gap with
        state := .restoring, holdTimer := none
        move := some
          { kind := .restore, origin := none, tag := none, eff := none, pt := some p, strokeClamped := false
            phase := .settle (t.clock + msTicks (s.st i).record.gapTuning.settle), dir := none, pBefore := none
            pulses := 0, noProgress := 0, pendingSuspend := false, dwell := none, loadWaited := 0 } }) ∧
  (∀ (s : State) (i : StationId) (e : Ticks), s.Serving i → (s.st i).gap.holdTimer = some e →
    (s.st i).gap.noRestore = true → (s.st i).gap.move = none →
    Takes (.reliefHoldExpiry i) s fun t =>
      t.clock = max s.clock e ∧ s.ReliefEnds t i ∧ (t.st i).record = (s.st i).record ∧ s.SameButLots t ∧
      s.OthersKept t i) ∧
  (∀ (s : State) (i : StationId), s.Serving i → s.epoch ≤ s.clock →
    Takes (.trampListAgeing i) s fun t =>
      s.clock ≤ t.clock ∧ t.clock < s.clock + 40000000 ∧ 40000000 ∣ t.clock - s.epoch ∧
      t = s.stationAt t.clock i { s.st i with gap := { (s.st i).gap with
            onsets := (s.st i).gap.onsets.filter fun x =>
              decide ((t.runningTime + 4294967296 - x) % 4294967296 ≤
                (s.st i).record.gapTuning.trampWindow * 1000) } })

/-! ## The valve pulse loop -/

/-- A settle expiry within the deadband ends the move COMPLETE (R65). A SETTING or TRIM move ends by R80 and R82: the standing target is its effective target, the
trim-inhibit flag follows STROKE_CLAMPED (R48), and MOVE END is raised. A RESTORE ends the relief: the context's move continues with its target
position computed afresh and its counts kept, in SETTLE or SUSPENDED as it was (R99, R101). A BACKOFF ends the calibration CAL_DONE with CAL END
(R112). A station with no move to continue goes to IDLE or UNREFERENCED (R40): in IDLE the oldest entry becomes the move in flight, a held step
joins the queue at its space event, and with an empty queue a due trim begins (R43, R44, R47, R154); an activation closes a lot of another target
CUT (R145).
The model's own: the moment taken, log 2 of the assumption log. -/
def Obligations.SettleWithinDeadbandCompletes : Prop :=
  ∀ (s : State) (i : StationId) (m : Move) (e p q : Nat), s.Serving i → (s.st i).gap.move = some m →
    m.phase = .settle e → m.pt = some q → (s.st i).posInUse = some p → apart q p ≤ (s.st i).record.gapTuning.d →
    (m.kind = .setting ∨ m.kind = .trim →
      Takes (.settleExpiry i) s fun t =>
        t.clock = max s.clock e ∧ s.Rests t i ((s.st i).ended m .complete) (s.raised ||| sourceBit (8 * i.val)) ∧
        (t.st i).record = (s.st i).record ∧ s.SameButLots t ∧ s.OthersKept t i) ∧
    (m.kind = .restore →
      Takes (.settleExpiry i) s fun t =>
        t.clock = max s.clock e ∧ s.ReliefEnds t i ∧ (t.st i).feed.stops.tramp = false ∧
        (t.st i).record = (s.st i).record ∧ s.SameButLots t ∧ s.OthersKept t i) ∧
    (m.kind = .backoff → ∀ c, (s.st i).gap.calibration = some c → c.phase = .backoff →
      Takes (.settleExpiry i) s fun t =>
        t.clock = max s.clock e ∧ (t.st i).feed.stops.calibration = false ∧
        s.Rests t i
          { (s.st i).gap with
            move := none, calibration := none
            lastCal := some
              { result := .done, pStart := c.pStart, zNew := c.zNew, finalPos := some p, seekPulses := c.seekPulses
                backoffPulses := some m.pulses, calNumber := (s.st i).record.calNumber } }
          (s.raised ||| sourceBit (8 * i.val + 1)) ∧
        (t.st i).record = (s.st i).record ∧ s.SameButLots t ∧ s.OthersKept t i)

/-- A settle expiry outside the deadband counts the pulses without progress and tests the stall and the pulse limit (R66, R67). Where neither ends the move it gives
a pulse (R68, R69): its direction by the sign of P_t - P, its width |P_t - P| × pulse gain clamped to [Tmin, Tmax] (R37), and the valve of its
direction active; a closing SETTING, TRIM or RESTORE move on a crusher above its close power limit waits in WAIT_LOAD instead (R68, R72). The third
pulse in a row without progress ends the move STALLED, and the pulse limit ends it PULSE_LIMIT: a SETTING or TRIM move ends by R80, a TRIM setting the
trim-inhibit flag (R48); a RESTORE faults the station with RESTORE_STALLED, a context ending FAULTED (R102); a BACKOFF ends the calibration
CAL_BACKOFF_FAILED (R112). After the first and the last the station goes to IDLE, where the oldest entry is activated or a due trim begins, or to
UNREFERENCED (R40, R44, R47).
The model's own: the moment taken, log 2 of the assumption log. -/
def Obligations.SettleGivesPulse : Prop :=
  let runAt := fun (m : Move) (p : Nat) =>
    match m.pBefore with
    | none => m.noProgress
    | some b =>
      let progress : Int := if m.dir = some .opening then (b : Int) - p else (p : Int) - b
      if progress < 1 then m.noProgress + 1 else 0
  (∀ (s : State) (i : StationId) (m : Move) (e p q : Nat), s.Serving i → (s.st i).gap.move = some m →
    m.kind ≠ .seek → m.phase = .settle e → m.pt = some q → (s.st i).posInUse = some p →
    (s.st i).record.gapTuning.d < apart q p → m.pBefore = none ∨ runAt m p ≠ 3 →
    m.pulses ≠ (s.st i).record.gapTuning.pulseLimit →
    Takes (.settleExpiry i) s fun t =>
      let dir : Dir := if p < q then .closing else .opening
      t.clock = max s.clock e ∧ t.raised = s.raised ∧ s.SameDevice t ∧ s.OthersKept t i ∧
      (t.st i).record = (s.st i).record ∧
      (if dir = .closing ∧ m.kind ≠ .backoff ∧ (s.st i).record.gapTuning.closePower < (s.st i).power.reading then
        (t.st i).gap = { (s.st i).gap with
          move := some { m with
            noProgress := runAt m p, dir := some dir, loadWaited := 0
            phase := .waitLoad t.clock (if m.kind = .restore then none
              else some (t.clock + secTicks (s.st i).record.gapTuning.loadWait)) } }
      else
        (t.st i).gap = { (s.st i).gap with
          move := some { m with
            noProgress := runAt m p, dir := some dir, pBefore := some p, pulses := m.pulses + 1
            phase := .pulse t.clock (clampTo (s.st i).record.gapTuning.tMin (s.st i).record.gapTuning.tMax
              (apart q p * (s.st i).record.gapTuning.pulseGain)) }
          openOut := if (s.st i).gap.dryRun then (s.st i).gap.openOut else decide (q ≤ p)
          closeOut := if (s.st i).gap.dryRun then (s.st i).gap.closeOut else decide (p < q) })) ∧
  ∀ (s : State) (i : StationId) (m : Move) (e p q : Nat), s.Serving i → (s.st i).gap.move = some m →
    m.phase = .settle e → m.pt = some q → (s.st i).posInUse = some p → (s.st i).record.gapTuning.d < apart q p →
    (m.pBefore ≠ none ∧ runAt m p = 3) ∨ m.pulses = (s.st i).record.gapTuning.pulseLimit →
    let stalled := m.pBefore ≠ none ∧ runAt m p = 3
    (m.kind = .setting ∨ m.kind = .trim →
      Takes (.settleExpiry i) s fun t =>
        t.clock = max s.clock e ∧
        s.Rests t i ((s.st i).ended m (if stalled then .stalled else .pulseLimit)) (s.raised ||| sourceBit (8 * i.val)) ∧
        (t.st i).record = (s.st i).record ∧ s.SameButLots t ∧ s.OthersKept t i) ∧
    (m.kind = .restore → (s.st i).gap.state = .restoring →
      Takes (.settleExpiry i) s fun t =>
        t.clock = max s.clock e ∧ t.Raised (8 * i.val + 3) ∧ (t.st i).gap.state = .faulted ∧
        (t.st i).gap.cause = some .restoreStalled ∧ (t.st i).gap.move = none ∧ (t.st i).gap.context = none ∧
        (t.st i).gap.pSave = none ∧ (t.st i).gap.noRestore = false ∧ (t.st i).gap.queue = [] ∧
        (t.st i).sched = scheduleStopped (s.st i).sched ∧ (t.st i).feed.stops.fault = true ∧
        (t.st i).feed.stops.tramp = false ∧
        (match (s.st i).gap.context with
          | none => (t.st i).gap.lastMove = (s.st i).gap.lastMove
          | some c => t.Raised (8 * i.val) ∧ (t.st i).gap.lastMove = some
              { result := .faulted, kind := c.move.kind, origin := c.move.origin, tag := c.move.tag, eff := c.move.eff
                finalPos := some p, pulses := c.move.pulses, strokeClamped := c.move.strokeClamped }) ∧
        (t.st i).record = (s.st i).record ∧ s.SameDevice t ∧ s.OthersKept t i) ∧
    (m.kind = .backoff → ∀ c, (s.st i).gap.calibration = some c → c.phase = .backoff →
      Takes (.settleExpiry i) s fun t =>
        t.clock = max s.clock e ∧
        s.Rests t i
          { (s.st i).gap with
            move := none, calibration := none
            lastCal := some
              { result := .backoffFailed, pStart := c.pStart, zNew := c.zNew, finalPos := some p
                seekPulses := c.seekPulses, backoffPulses := some m.pulses, calNumber := (s.st i).record.calNumber } }
          (s.raised ||| sourceBit (8 * i.val + 1)) ∧
        (t.st i).record = (s.st i).record ∧ s.SameButLots t ∧ s.OthersKept t i)

/-- R70: at the pulse timer's expiry the valve goes inactive and the move enters SETTLE; with dry run on, the simulated position takes the width and the direction
of the pulse (R159), and with dry run off nothing is handed. -/
def Obligations.PulseTimerEndsPulse : Prop :=
  ∀ (s : State) (i : StationId) (m : Move) (since width : Nat), s.Serving i → (s.st i).gap.move = some m →
    m.phase = .pulse since width → s.clock ≤ since + msTicks width →
    Takes (.pulseTimerExpiry i) s fun t =>
      let c := since + msTicks width
      let g := (s.st i).record.gapTuning
      let travel := width * g.travelRate / 1000
      t = s.stationAt c i
        { s.st i with gap := { (s.st i).gap with
            openOut := false, closeOut := false
            move := some { m with phase := .settle (c + msTicks g.settle) }
            sim := if (s.st i).gap.dryRun then
                (s.st i).gap.sim.map fun p =>
                  clampTo 0 g.simContact (if m.dir = some .opening then p - travel else p + travel)
              else (s.st i).gap.sim } }

/-- A load wait that times out ends a SETTING or TRIM move LOAD_TIMEOUT, a TRIM sets the trim-inhibit flag, and the station goes to IDLE, where the oldest
entry is activated or a due trim begins, or to UNREFERENCED (R74, R80, R48, R40, R44, R47). A resume dwell that expires with a
suspend pending suspends the move, and otherwise leaves the move running without a dwell (R77).
The model's own: the moment taken, log 2 of the assumption log. -/
def Obligations.LoadWaitAndDwellExpire : Prop :=
  (∀ (s : State) (i : StationId) (m : Move) (since e : Nat), s.Serving i → (s.st i).gap.move = some m →
    m.kind = .setting ∨ m.kind = .trim → m.phase = .waitLoad since (some e) →
    Takes (.loadWaitExpiry i) s fun t =>
      t.clock = max s.clock e ∧ s.Rests t i ((s.st i).ended m .loadTimeout) (s.raised ||| sourceBit (8 * i.val)) ∧
      (t.st i).record = (s.st i).record ∧ s.SameButLots t ∧ s.OthersKept t i) ∧
  (∀ (s : State) (i : StationId) (m : Move) (e : Ticks), s.Serving i → (s.st i).gap.move = some m →
    m.dwell = some e → (s.st i).gap.state = .moving → (s.st i).gap.Whole →
    Takes (.resumeDwellExpiry i) s fun t =>
      t.clock = max s.clock e ∧ t.raised = s.raised ∧ s.SameDevice t ∧ s.OthersKept t i ∧
      (if m.pendingSuspend then
        (t.st i).gap.state = .suspended ∧ (t.st i).gap.openOut = false ∧ (t.st i).gap.closeOut = false ∧
        ∃ m', (t.st i).gap.move = some m' ∧
          m' = { m with phase := .parked, dwell := none, pendingSuspend := false, loadWaited := m'.loadWaited }
      else (t.st i).gap = { (s.st i).gap with move := some { m with dwell := none } }))

/-! ## Calibration -/

/-- The quiet timer's expiry ends DRAIN and forms the SEEK move, in SETTLE (R105, R106); the drain timeout's expiry ends the calibration CAL_NOT_EMPTY with CAL END
(R105, R112), and the station goes to IDLE, where the oldest entry is activated or a due trim begins, or to UNREFERENCED (R40, R44, R47).
The model's own: the moment taken, log 2 of the assumption log. -/
def Obligations.DrainTimersExpire : Prop :=
  (∀ (s : State) (i : StationId) (c : Calibration) (e : Ticks), s.Serving i → (s.st i).gap.calibration = some c →
    c.phase = .drain → c.quietTimer = some e →
    Takes (.quietTimerExpiry i) s fun t =>
      t.clock = max s.clock e ∧ t.raised = s.raised ∧ s.SameDevice t ∧ s.OthersKept t i ∧
      (t.st i).gap = { (s.st i).gap with
        calibration := some { c with phase := .seek, drainTimer := none, quietTimer := none }
        move := some
          { kind := .seek, origin := none, tag := none, eff := none, pt := none, strokeClamped := false
            phase := .settle (t.clock + msTicks (s.st i).record.gapTuning.settle), dir := some .closing
            pBefore := none, pulses := 0, noProgress := 0, pendingSuspend := false, dwell := none
            loadWaited := 0 } }) ∧
  (∀ (s : State) (i : StationId) (c : Calibration) (e : Ticks), s.Serving i → (s.st i).gap.calibration = some c →
    c.phase = .drain → c.drainTimer = some e → (s.st i).gap.move = none →
    Takes (.drainTimeoutExpiry i) s fun t =>
      t.clock = max s.clock e ∧
      s.Rests t i
        { (s.st i).gap with
          calibration := none
          lastCal := some
            { result := .notEmpty, pStart := c.pStart, zNew := c.zNew, finalPos := (s.st i).posInUse
              seekPulses := c.seekPulses, backoffPulses := none, calNumber := (s.st i).record.calNumber } }
        (s.raised ||| sourceBit (8 * i.val + 1)) ∧
      (t.st i).record = (s.st i).record ∧ s.SameButLots t ∧ s.OthersKept t i)

/-- A SEEK settle expiry (R107): at the end of the range it ends the calibration CAL_NO_CONTACT; the second in a row without progress finds contact; else at the pulse limit
it ends CAL_NO_CONTACT (R112), and below it gives a calibration pulse, counted in the calibration record (R106). Contact (R108 to R111, R114): the calibration
number goes up; the flag is FIRST, ZERO_JUMP, SHORT_BASIS or NORMAL, and NORMAL alone blends the measured rate into R; the history gains the entry, the
oldest dropped at 8; Z is the contact position and valid, M_cal and W are 0; the trim-inhibit flag clears and a write is requested; BACKOFF is formed toward
the standing target with W at 0, or toward P_start clamped, with the standing target as its effective target.
The model's own: the moment taken, log 2 of the assumption log. -/
def Obligations.SeekFindsContact : Prop :=
  let runAt := fun (m : Move) (p : Nat) =>
    match m.pBefore with
    | none => m.noProgress
    | some b => if p ≤ b then m.noProgress + 1 else 0
  (∀ (s : State) (i : StationId) (m : Move) (c : Calibration) (e p : Nat), s.Serving i →
    (s.st i).gap.move = some m → m.kind = .seek → m.phase = .settle e → (s.st i).gap.calibration = some c →
    (s.st i).posInUse = some p → p ≠ 65535 →
    Takes (.seekSettleExpiry i) s fun t =>
      t.clock = max s.clock e ∧ s.OthersKept t i ∧
      (m.pBefore = none ∨ runAt m p ≠ 2 → m.pulses ≠ (s.st i).record.gapTuning.calPulseLimit →
        (t.st i).record = (s.st i).record ∧ (t.st i).lots = (s.st i).lots ∧ s.SameDevice t ∧ t.raised = s.raised ∧
        (t.st i).gap = { (s.st i).gap with
          move := some { m with
            phase := .pulse t.clock (s.st i).record.gapTuning.calPulse, pBefore := some p, pulses := m.pulses + 1
            noProgress := runAt m p }
          calibration := some { c with seekPulses := c.seekPulses + 1 }
          openOut := if (s.st i).gap.dryRun then (s.st i).gap.openOut else m.dir == some .opening
          closeOut := if (s.st i).gap.dryRun then (s.st i).gap.closeOut else m.dir == some .closing }) ∧
      (m.pBefore ≠ none → runAt m p = 2 →
        let old := (s.st i).record
        let wm : Int := if p < old.z then -((((old.z - p) * old.gapTuning.k + 128) / 256 : Nat) : Int)
          else (((p - old.z) * old.gapTuning.k + 128) / 256 : Nat)
        let flag : HistFlag := if c.hadZero = false then .first else if p < old.z then .zeroJump
          else if old.mCal < 50000 then .shortBasis else .normal
        let rate := if flag = .normal then (3 * old.r + min 10000 (wm.toNat * 100000 / old.mCal) + 2) / 4 else old.r
        let number := (old.calNumber + 1) % 65536
        let effective := fun target => clampTo old.limits.cssMin old.limits.cssMax target
        let raw := match (s.st i).gap.standing with
          | some target => p - (effective target * 256 + old.gapTuning.k / 2) / old.gapTuning.k
          | none => c.pStart
        let pt := clampTo old.limits.pMin old.limits.pMax raw
        (t.st i).record = { old with
          calNumber := number, z := p, zValid := true, r := rate, mCal := 0
          history := (if 8 ≤ old.history.length then old.history.drop (old.history.length - 7) else old.history) ++
            [{ calNumber := number, zOld := if c.hadZero then some old.z else none, zNew := p
               wm := if c.hadZero then some wm else none, mCal := old.mCal, w := (s.st i).gap.w, r := rate
               flag := flag }] } ∧
        (t.st i).gap = { (s.st i).gap with
          w := 0, trimInhibit := false
          calibration := some { c with phase := .backoff, zNew := some p }
          move := some
            { kind := .backoff, origin := none, tag := none, eff := (s.st i).gap.standing, pt := some pt
              strokeClamped := pt != raw, phase := .settle (t.clock + msTicks old.gapTuning.settle), dir := none
              pBefore := none, pulses := 0, noProgress := 0, pendingSuspend := false, dwell := none
              loadWaited := 0 } } ∧
        (t.st i).lots = (s.st i).lots ∧ (s.writer = .idle → t.writer = .station i (t.st i).record t.clock) ∧
        (s.writer ≠ .idle → t.writer = s.writer ∧
          ∀ j, setHas t.pendingWrites j = (setHas s.pendingWrites j || (j == i && !s.storeSeq.contains i))))) ∧
  ∀ (s : State) (i : StationId) (m : Move) (c : Calibration) (e p : Nat), s.Serving i →
    (s.st i).gap.move = some m → m.kind = .seek → m.phase = .settle e → (s.st i).gap.calibration = some c →
    c.phase = .seek → (s.st i).posInUse = some p →
    p = 65535 ∨ ((m.pBefore = none ∨ runAt m p ≠ 2) ∧ m.pulses = (s.st i).record.gapTuning.calPulseLimit) →
    Takes (.seekSettleExpiry i) s fun t =>
      t.clock = max s.clock e ∧
      s.Rests t i
        { (s.st i).gap with
          calibration := none, move := none
          lastCal := some
            { result := .noContact, pStart := c.pStart, zNew := c.zNew, finalPos := some p, seekPulses := c.seekPulses
              backoffPulses := none, calNumber := (s.st i).record.calNumber } }
        (s.raised ||| sourceBit (8 * i.val + 1)) ∧
      (t.st i).record = (s.st i).record ∧ s.SameButLots t ∧ s.OthersKept t i

/-! ## Feed regulation -/

/-- The control step of a running regulator that stays unstopped (R124 to R127): AUTO with a level reading changes the demand by the rounded and clamped velocity
law, AUTO without one takes the blind step, MANUAL goes toward the clamped manual rate at the slew rate; a reduce reason (POWER_HIGH of this interval
included) makes the change minus the slew, a hold reason forbids a rise, and the output rate takes the demand. -/
def Obligations.ControlStepChangesDemand : Prop :=
  ∀ (s : State) (i : StationId) (e : Ticks), s.Serving i → (s.st i).feed.controlTimer = some e →
    (s.st i).feed.stops = noStops → (s.st i).feed.tuned = false → (s.st i).feed.mode ≠ .stop →
    (s.st i).record.feedTuning.runPower ≤ (s.st i).power.reading →
    (s.st i).power.reading ≤ (s.st i).record.limits.powerTrip →
    Takes (.controlInterval i) s fun t =>
      let f := (s.st i).feed
      let u := (s.st i).record.feedTuning
      let reduce := f.gapLoadWait || decide (u.powerLimit < (s.st i).power.reading)
      let reasoned := fun d : Int => if reduce then -(u.slew : Int) else if f.gapMove then min d 0 else d
      let moved := fun d : Int => (clampInt u.rateMin u.rateMax ((f.demand : Int) + reasoned d)).toNat
      let demand := match f.mode, (s.st i).levelReading with
        | .auto, some l =>
          let x : Int := (u.targetLevel : Int) - l
          moved (clampInt (-(u.slew : Int)) u.slew
            (divAway256 ((u.kp : Int) * (x - f.prevError.getD x) + (u.ki : Int) * x)))
        | .auto, none =>
          (clampInt u.rateMin u.rateMax
            (min ((f.demand : Int) + (if reduce then -(u.slew : Int) else 0)) u.blindRate)).toNat
        | _, _ =>
          moved (clampInt (-(u.slew : Int)) u.slew ((clampTo u.rateMin u.rateMax f.manualRate : Int) - f.demand))
      (t.st i).feed.demand = demand ∧ (t.st i).feed.output = demand ∧
      (t.st i).feed.prevError = (match f.mode, (s.st i).levelReading with
        | .auto, some l => some ((u.targetLevel : Int) - l)
        | _, _ => f.prevError) ∧
      (t.st i).feed.stops = noStops ∧ (t.st i).gap = (s.st i).gap ∧ (t.st i).record = (s.st i).record ∧
      t.raised = s.raised ∧ s.SameDevice t ∧ s.OthersKept t i

/-- The power reasons at every control interval, whatever the mode (R129, R130): NOT_RUNNING below the run power, OVERLOAD above the trip and, once posted, above
the limit, POWER_HIGH above the limit; a feeder that OVERLOAD or NOT_RUNNING stops is at 0 with the demand at rate_min (R121). The open lot
counts the interval and, where the reading is fresh, the sample and its power; with no lot open nothing counts (R147). The timer is restarted (R123).
The model's own: the moment taken, log 2 of the assumption log. -/
def Obligations.ControlIntervalPostsPowerReasons : Prop :=
  ∀ (s : State) (i : StationId) (e : Ticks), s.Serving i → (s.st i).feed.controlTimer = some e →
    Takes (.controlInterval i) s fun t =>
      let u := (s.st i).record.feedTuning
      let power := (s.st i).power.reading
      t.clock = max s.clock e ∧
      (t.st i).feed.stops.notRunning = decide (power < u.runPower) ∧
      (t.st i).feed.stops.overload =
        (decide ((s.st i).record.limits.powerTrip < power) ||
          ((s.st i).feed.stops.overload && decide (u.powerLimit < power))) ∧
      (t.st i).feed.powerHigh = decide (u.powerLimit < power) ∧
      (t.st i).feed.controlTimer = some (t.clock + msTicks u.controlInterval) ∧
      (t.st i).feed.mode = (s.st i).feed.mode ∧ (t.st i).feed.manualRate = (s.st i).feed.manualRate ∧
      ((s.st i).feed.stops = noStops →
        (power < u.runPower ∨ (s.st i).record.limits.powerTrip < power) →
        (t.st i).feed.output = 0 ∧ (t.st i).feed.demand = u.rateMin) ∧
      (t.st i).lots = { (s.st i).lots with lot := (s.st i).lots.lot.map fun l =>
        { l with
          intervals := l.intervals + 1
          freshCount := l.freshCount + (if (s.st i).power.fresh then 1 else 0)
          powerSum := l.powerSum + (if (s.st i).power.fresh then power else 0) } } ∧
      (t.st i).gap = (s.st i).gap ∧ (t.st i).record = (s.st i).record ∧ (t.st i).power = (s.st i).power

/-- The chain coupling (R132, R133, R121). The chain timer's expiry posts DOWNSTREAM and stops the feeder, where DOWNSTREAM stands at no station whose downstream condition
fails. The output of the last feeder of a downstream set going to 0, by SET FEED STOP there, starts the chain timer upstream for the chain delay; an
output above 0, by SET FEED MANUAL or AUTO there, stops the timer and removes DOWNSTREAM, and a feeder whose stop set this empties restarts at rate_min. A
downstream set that TUNE FEED carried is in force from the next control interval, and its condition is evaluated there.
The model's own: the moment taken, log 2 of the assumption log. -/
def Obligations.ChainTimerPostsDownstream : Prop :=
  (∀ (s : State) (i : StationId) (e : Ticks), s.Serving i → (s.st i).feed.chainTimer = some e →
    s.downstreamIdle i = true → (∀ j, (s.st j).feed.stops.downstream = true → s.downstreamIdle j = true) →
    setHas (s.st i).feed.downstream i = false → (s.st i).FeedHolds →
    Takes (.chainTimerExpiry i) s fun t =>
      t.clock = max s.clock e ∧ (t.st i).feed.stops = { (s.st i).feed.stops with downstream := true } ∧
      (t.st i).feed.chainTimer = none ∧ (t.st i).feed.output = 0 ∧ (t.st i).feed.mode = (s.st i).feed.mode ∧
      (t.st i).gap = (s.st i).gap ∧ (t.st i).record = (s.st i).record ∧ t.raised = s.raised ∧ s.SameDevice t ∧
      s.OthersKept t i) ∧
  (∀ (s : State) (i j : StationId) (dt rate : Nat), s.HearsFor j → s.present i = true → i ≠ j →
    (∀ k, (s.st k).feed.stops.downstream = true → s.downstreamIdle k = true) →
    setHas (s.st i).feed.downstream j = true →
    (∀ k, k ≠ j → setHas (s.st i).feed.downstream k = true → s.outputSeen k = 0) →
    (s.st i).feed.stops.downstream = false → (s.st i).feed.chainTimer = none → (s.st j).FeedHolds →
    Takes (.setFeed dt false j.val 0 rate) s fun t =>
      (t.st j).feed.output = 0 ∧
      t.st i = { s.st i with feed := { (s.st i).feed with
        chainTimer := some (s.clock + dt + secTicks (s.st i).record.feedTuning.chainDelay) } }) ∧
  (∀ (s : State) (i j : StationId) (dt rate mode : Nat), s.HearsFor j → s.present i = true → i ≠ j →
    setHas (s.st i).feed.downstream j = true → mode = 1 ∨ mode = 2 → (s.st j).feed.mode = .stop →
    (s.st j).feed.stops = noStops → 0 < (s.st j).record.feedTuning.rateMin →
    Takes (.setFeed dt false j.val mode rate) s fun t =>
      (t.st i).feed.chainTimer = none ∧ (t.st i).feed.stops = { (s.st i).feed.stops with downstream := false } ∧
      (t.st i).gap = (s.st i).gap ∧ (t.st i).feed.mode = (s.st i).feed.mode ∧
      ((s.st i).feed.stops = { noStops with downstream := true } → (s.st i).feed.mode ≠ .stop →
        (t.st i).feed.output = (s.st i).record.feedTuning.rateMin ∧
        (t.st i).feed.demand = (s.st i).record.feedTuning.rateMin ∧ (t.st i).feed.prevError = none)) ∧
  ∀ (s : State) (i : StationId) (e : Ticks), s.Serving i → (s.st i).feed.controlTimer = some e →
    (s.st i).feed.tuned = true → (s.st i).feed.mode = .stop → (s.st i).FeedHolds →
    (∀ k, (s.st k).feed.stops.downstream = true → s.downstreamIdle k = true) →
    Takes (.controlInterval i) s fun t =>
      let f := (s.st i).feed
      let set := (s.st i).record.feedTuning.downstream
      (t.st i).feed.tuned = false ∧ (t.st i).feed.downstream = set ∧
      if set ≠ 0#8 ∧ ∀ k, setHas set k = true → s.outputSeen k = 0 then
        (t.st i).feed.stops.downstream = f.stops.downstream ∧
        (f.stops.downstream = false → (t.st i).feed.chainTimer =
          if s.downstreamIdle i = true ∧ f.chainTimer ≠ none then f.chainTimer
          else some (t.clock + secTicks (s.st i).record.feedTuning.chainDelay))
      else (t.st i).feed.stops.downstream = false ∧ (t.st i).feed.chainTimer = none

/-- The waveform (R137, R138): the high half lasts floor(period / 2) µs and the low half the rest; at the end of a period the pending period takes over, or the same
period repeats, with its high half first and nothing pending.
The model's own: the moment taken, log 2 of the assumption log. -/
def Obligations.WaveformHalves : Prop :=
  ∀ (s : State) (i : StationId) (w : Wave), s.Serving i → (s.st i).feed.wave = some w →
    let c := max s.clock w.halfEnds
    (w.high = true →
      Takes (.feedHalfEnd i) s fun t =>
        t = s.stationAt c i { s.st i with feed := { (s.st i).feed with
              wave := some { w with high := false, halfEnds := c + 40 * (w.period - w.period / 2) } } } ∧
        (t.stationPins i).feedOut = false) ∧
    (w.high = false →
      Takes (.feedPeriodEnd i) s fun t =>
        t = s.stationAt c i { s.st i with feed := { (s.st i).feed with
              wave := some
                { high := true, period := w.pending.getD w.period, pending := none
                  halfEnds := c + 40 * (w.pending.getD w.period / 2) } } } ∧
        (t.stationPins i).feedOut = true)

/-- SET FEED by the table of R118 at the station it names, or with 255 at every present station (R117), addressed or from a broadcast frame, which a device
with address 0 takes as well and nobody answers (R166, R170): the manual rate is held up to 1,000; out of STOP the feeder restarts at rate_min, and
stays at 0 under a stop reason; into STOP it goes to 0 with the demand at rate_min; between MANUAL and AUTO it runs on, its previous level error absent. -/
def Obligations.SetFeedChangesMode : Prop :=
  ∀ (s : State) (dt : Ticks) (bcast : Bool) (n mode rate : Nat) (m : FeedMode), s.HearsFrame bcast →
    n = 255 ∨ (∃ i, s.Names n i) → feedModeOf mode = some m →
    (∀ i, s.Names n i → (s.st i).FeedHolds ∧ (s.st i).feed.stops.downstream = false) →
    Takes (.setFeed dt bcast n mode rate) s fun t =>
      t.link = s.answeredTo dt bcast 0x09#8 (answer (if 1000 < rate then .clamped else .done)) ∧
      (∀ i, s.Names n i →
        let f := (s.st i).feed
        let u := (s.st i).record.feedTuning
        (t.st i).feed.mode = m ∧ (t.st i).feed.manualRate = min 1000 rate ∧
        (t.st i).feed.demand = (if (f.mode = .stop) ≠ (m = .stop) then u.rateMin else f.demand) ∧
        (t.st i).feed.output = (if m = .stop ∨ f.stops.any = true then 0
          else if f.mode = .stop then u.rateMin else f.demand) ∧
        (t.st i).feed.prevError = (if m ≠ .stop ∧ m ≠ f.mode then none else f.prevError) ∧
        (t.st i).feed.stops = f.stops ∧ t.st i = { s.st i with feed := (t.st i).feed }) ∧
      (∀ j, ¬ s.Names n j → (s.st j).Kept (t.st j)) ∧
      t = { s with clock := s.clock + dt, stations := t.stations, link := t.link }

/-- TUNE FEED replaces the feed tuning by the carried values brought into range, and clamps the demand (R134); a downstream set that names a station outside 0 to 3 is
refused BAD_VALUE, and one that would close a cycle BAD_CHAIN, changing nothing (R135). -/
def Obligations.TuneFeedReplacesTuning : Prop :=
  ∀ (s : State) (i : StationId) (dt : Ticks) (v : FeedTuning), s.HearsFor i →
    Takes (.tuneFeed dt i.val v) s fun t =>
      let quiet := { s with clock := s.clock + dt, link := t.link }
      if v.downstream &&& 0xF0#8 ≠ 0#8 then t = quiet ∧ t.link = s.replied dt 0x0A#8 (answer .badValue)
      else if chainCycle (s.downstreamWith i v.downstream) then
        t = quiet ∧ t.link = s.replied dt 0x0A#8 (answer .badChain)
      else
        let u := feedTuningTaken v
        t.link = s.replied dt 0x0A#8 (answer (if u = v then .done else .clamped)) ∧
        (t.st i).record = { (s.st i).record with feedTuning := u } ∧ RateRange u ∧
        (t.st i).feed.tuned = true ∧ (t.st i).gap = (s.st i).gap ∧ s.OthersKept t i ∧
        ((s.st i).feed.stops = noStops → (t.st i).feed.demand = clampTo u.rateMin u.rateMax (s.st i).feed.demand ∧
          ((s.st i).feed.mode ≠ .stop → (t.st i).feed.output = (t.st i).feed.demand)) ∧
        t = { s with clock := s.clock + dt, stations := t.stations, link := t.link }

/-! ## Lots and schedules -/

/-- The lean timer's expiry closes the open lot SHORT (R144, R146, R147): its record joins the tail of the lot queue, or is dropped and counted where 16 stand (R149).
READ LOT carries the oldest record and removes it, or carries none (R150); a lot record has the 19 bytes of 13.5, field for field (R191).
The model's own: the moment taken, log 2 of the assumption log. -/
def Obligations.LotQueueTakesAndGives : Prop :=
  (∀ (s : State) (i : StationId) (l : OpenLot) (e : Ticks), s.Serving i → (s.st i).lots.lot = some l →
    (s.st i).lots.leanTimer = some e →
    Takes (.leanTimerExpiry i) s fun t =>
      let lots := { (s.st i).lots with lot := none, leanTimer := none }
      let r : LotRecord :=
        { station := i, number := l.number, mass := l.mass, reason := .short, target := l.target, step := l.step
          meanPower := if 1 ≤ l.freshCount ∧ l.intervals ≤ 2 * l.freshCount then
              some ((l.powerSum + l.freshCount / 2) / l.freshCount) else none
          w := (s.st i).gap.w }
      if s.lotQueue.length < 16 then
        t = { s.stationAt (max s.clock e) i { s.st i with lots := lots } with
          lotQueue := s.lotQueue ++ [r]
          raised := if s.lotQueue = [] then s.raised ||| sourceBit 33 else s.raised }
      else
        t = { s.stationAt (max s.clock e) i
            { s.st i with lots := { lots with dropped := min 65535 (lots.dropped + 1) } } with
          raised := s.raised ||| sourceBit 34 }) ∧
  (∀ (s : State) (dt : Ticks), s.Hearing →
    Takes (.readLot dt) s fun t =>
      t = { s with
        clock := s.clock + dt, lotQueue := s.lotQueue.tail
        link := s.replied dt 0x0D#8
          { code := .done
            record := match s.lotQueue with
              | [] => zeroBytes 20
              | r :: _ => 0x01#8 :: lotBytes r } }) ∧
  ∀ r : LotRecord, (lotBytes r).length = 19 ∧ CarriesLot (lotBytes r) 0 r

/-- LOAD SCHEDULE makes the schedule LOADED with the carried steps, lot sizes clamped (R151); RUN SCHEDULE STOP makes a RUNNING or HELD schedule LOADED with its index
kept (R155). -/
def Obligations.ScheduleLoadsAndStops : Prop :=
  (∀ (s : State) (i : StationId) (dt : Ticks) (steps : List ScheduleStep), s.HearsFor i → steps ≠ [] →
    steps.length ≤ 8 → (s.st i).sched.state ≠ .running → (s.st i).sched.state ≠ .held →
    Takes (.loadSchedule dt i.val steps) s fun t =>
      let taken := steps.map fun p => { p with lotSize := clampTo 1000 100000000 p.lotSize }
      t = { s.stationAt (s.clock + dt) i
          { s.st i with sched := { (s.st i).sched with
              state := .loaded, steps := taken, index := 0, pending := false } } with
        link := s.replied dt 0x0B#8 (answer (if taken = steps then .done else .clamped)) }) ∧
  (∀ (s : State) (i : StationId) (dt mode cyclic : Nat), s.HearsFor i → mode = 1 ∨ mode = 2 → cyclic ≤ 1 →
    (s.st i).sched.state = .running ∨ (s.st i).sched.state = .held →
    Takes (.runScheduleStop dt i.val mode cyclic) s fun t =>
      t = { s.stationAt (s.clock + dt) i
          { s.st i with sched := { (s.st i).sched with state := .loaded, pending := false } } with
        link := s.replied dt 0x0C#8 (answer .done) })

/-- RUN SCHEDULE START makes the schedule RUNNING at its first step and enqueues that step's entry: in MOVING and SUSPENDED at the tail, in IDLE activated
at once (R152, R154, R43, R44). RUN SCHEDULE ADVANCE in RUNNING with mode MANUAL goes to the next step, or from the last step of a cyclic schedule
to the first, and enqueues its entry; past the last step of another schedule it ends with SCHEDULE END (R153). Behind a full queue the
schedule goes HELD with its step pending (R154), and the space event that CANCEL GAP hands releases it: the step's entry joins the emptied
queue and the schedule runs (R43, R54, R154). -/
def Obligations.ScheduleStartsAndAdvances : Prop :=
  let entry := fun (lim : Limits) (target step : Nat) => entryUnder lim target .schedule none (some step)
  (∀ (s : State) (i : StationId) (dt mode cyclic : Nat) (p : ScheduleStep) (rest : List ScheduleStep),
    s.HearsFor i → mode = 1 ∨ mode = 2 → cyclic ≤ 1 →
    (s.st i).sched.state = .loaded ∨ (s.st i).sched.state = .ended → (s.st i).sched.steps = p :: rest →
    (s.st i).gap.state = .moving ∨ (s.st i).gap.state = .suspended ∨
      ((s.st i).gap.state = .idle ∧ (s.st i).gap.queue = []) →
    Takes (.runScheduleStart dt i.val mode cyclic) s fun t =>
      let x := entry (s.st i).record.limits p.target 1
      let c : Schedule :=
        { state := .running, steps := p :: rest, index := 0, mode := if mode = 1 then .auto else .manual
          cyclic := decide (cyclic = 1), pending := false }
      (t.st i).record = (s.st i).record ∧ s.OthersKept t i ∧
      t = { s with
        clock := s.clock + dt, stations := t.stations, raised := t.raised, lotQueue := t.lotQueue, link := t.link } ∧
      if 4 ≤ (s.st i).gap.queue.length then
        t.link = s.replied dt 0x0C#8 (answer .accepted) ∧ (t.st i).sched = { c with state := .held, pending := true } ∧
        (t.st i).gap = (s.st i).gap ∧ s.LotsStand t i s.raised
      else
        t.link = s.replied dt 0x0C#8 (answer (if x.clamped then .clamped else .accepted)) ∧ (t.st i).sched = c ∧
        if (s.st i).gap.state = .idle then s.Activates t i (s.st i).gap x [] s.raised
        else (t.st i).gap = { (s.st i).gap with queue := (s.st i).gap.queue ++ [x] } ∧ s.LotsStand t i s.raised) ∧
  (∀ (s : State) (i : StationId) (dt mode cyclic : Nat), s.HearsFor i → mode = 1 ∨ mode = 2 → cyclic ≤ 1 →
    (s.st i).sched.state = .running → (s.st i).sched.mode = .manual → (s.st i).sched.pending = false →
    ((s.st i).gap.state = .idle → (s.st i).gap.queue = []) →
    Takes (.runScheduleAdvance dt i.val mode cyclic) s fun t =>
      let c := (s.st i).sched
      let enters := fun (k : Nat) (p : ScheduleStep) =>
        let x := entry (s.st i).record.limits p.target (k + 1)
        if 4 ≤ (s.st i).gap.queue.length then
          t.link = s.replied dt 0x0C#8 (answer .accepted) ∧ (t.st i).gap = (s.st i).gap ∧
          (t.st i).sched = { c with state := .held, index := k, pending := true } ∧ s.LotsStand t i s.raised
        else
          t.link = s.replied dt 0x0C#8 (answer (if x.clamped then .clamped else .accepted)) ∧
          (t.st i).sched = { c with index := k } ∧
          if (s.st i).gap.state = .idle then s.Activates t i (s.st i).gap x [] s.raised
          else (t.st i).gap = { (s.st i).gap with queue := (s.st i).gap.queue ++ [x] } ∧ s.LotsStand t i s.raised
      (∀ p, c.steps[c.index + 1]? = some p → enters (c.index + 1) p) ∧
      (c.steps.length ≤ c.index + 1 → c.cyclic = true → ∀ p, c.steps[0]? = some p → enters 0 p) ∧
      (c.steps.length ≤ c.index + 1 → c.cyclic = false →
        (t.st i).sched = { c with state := .ended } ∧ (t.st i).gap = (s.st i).gap ∧
        s.LotsStand t i (s.raised ||| sourceBit (8 * i.val + 6)) ∧ t.link = s.replied dt 0x0C#8 (answer .done)) ∧
      (t.st i).record = (s.st i).record ∧ s.OthersKept t i) ∧
  (∀ (s : State) (i : StationId) (dt : Ticks) (p : ScheduleStep), s.HearsFor i → (s.st i).sched.state = .held →
    (s.st i).sched.pending = true → (s.st i).sched.steps[(s.st i).sched.index]? = some p →
    (s.st i).gap.queue ≠ [] → (s.st i).gap.state ≠ .idle →
    Takes (.cancelGapPending dt i.val) s fun t =>
      t.link = s.replied dt 0x02#8 (answer .done) ∧
      (t.st i).sched = { (s.st i).sched with state := .running, pending := false } ∧
      (t.st i).gap = { (s.st i).gap with
        queue := [entry (s.st i).record.limits p.target ((s.st i).sched.index + 1)] } ∧
      (t.st i).lots = (s.st i).lots ∧ (t.st i).record = (s.st i).record ∧ s.OthersKept t i ∧
      t = { s with clock := s.clock + dt, stations := t.stations, link := t.link })

/-! ## Gap requests -/

/-- SET GAP APPEND: in IDLE the entry is activated at once as a SETTING move in SETTLE toward its target position (R31 to R33, R44, R50), and an open lot whose
target is absent or differs closes CUT, its record joining the lot queue or dropped with LOT LOSS where 16 stand (R145, R146, R149); a held step joins
behind it (R43, R154). In a state with work under way and the zero valid it joins the tail of the queue (R51). It is refused
ISOLATED or FAULTED in these states, NO_ZERO without a valid zero, and QUEUE_FULL behind four entries, and changes nothing (R50, R51). -/
def Obligations.AppendFormsEntry : Prop :=
  (∀ (s : State) (i : StationId) (dt target tag : Nat), s.HearsFor i → (s.st i).gap.state = .idle →
    (s.st i).record.zValid = true → (s.st i).gap.queue = [] →
    Takes (.setGapAppend dt i.val target tag) s fun t =>
      let r := (s.st i).record
      let eff := clampTo r.limits.cssMin r.limits.cssMax target
      let raw := r.z - ((eff - (s.st i).gap.w) * 256 + r.gapTuning.k / 2) / r.gapTuning.k
      let pt := clampTo r.limits.pMin r.limits.pMax raw
      t.link = s.replied dt 0x01#8 (answer (if eff = target then .accepted else .clamped)) ∧
      (t.st i).gap = { (s.st i).gap with
        state := .moving, queue := (s.st i).heldStep
        move := some
          { kind := .setting, origin := some .link, tag := some tag, eff := some eff, pt := some pt
            strokeClamped := pt != raw, phase := .settle (s.clock + dt + msTicks r.gapTuning.settle), dir := none
            pBefore := none, pulses := 0, noProgress := 0, pendingSuspend := false, dwell := none
            loadWaited := 0 } } ∧
      s.HandsTarget t i eff s.raised ∧ (t.st i).sched = (s.st i).sched.spaced ∧
      (t.st i).record = r ∧ (t.st i).feed.gapMove = true ∧ s.OthersKept t i ∧
      t = { s with
        clock := s.clock + dt, stations := t.stations, raised := t.raised, lotQueue := t.lotQueue, link := t.link }) ∧
  (∀ (s : State) (i : StationId) (dt target tag : Nat), s.HearsFor i →
    (s.st i).gap.state = .moving ∨ (s.st i).gap.state = .suspended ∨ (s.st i).gap.state = .relieved ∨
      (s.st i).gap.state = .restoring ∨ (s.st i).gap.state = .calibrating →
    (s.st i).record.zValid = true → (s.st i).gap.queue.length < 4 →
    Takes (.setGapAppend dt i.val target tag) s fun t =>
      let lim := (s.st i).record.limits
      let eff := clampTo lim.cssMin lim.cssMax target
      t.link = s.replied dt 0x01#8 (answer (if eff = target then .accepted else .clamped)) ∧
      (t.st i).gap = { (s.st i).gap with
        queue := (s.st i).gap.queue ++
          [{ requested := target, effective := eff, clamped := eff != target, origin := .link, tag := some tag
             step := none }] } ∧
      (t.st i).record = (s.st i).record ∧ (t.st i).lots = (s.st i).lots ∧ s.OthersKept t i ∧
      t = { s with clock := s.clock + dt, stations := t.stations, link := t.link }) ∧
  (∀ (s : State) (i : StationId) (dt target tag : Nat), s.HearsFor i →
    let g := (s.st i).gap
    let code : Option ResultCode := if g.state = .isolated then some .isolated
      else if g.state = .faulted then some .faulted
      else if (s.st i).record.zValid = false then some .noZero
      else if 4 ≤ g.queue.length then some .queueFull else none
    code ≠ none → Takes (.setGapAppend dt i.val target tag) s fun t =>
      t = { s with clock := s.clock + dt, link := s.replied dt 0x01#8 (answer (code.getD .done)) })

/-- SET GAP REPLACE with the zero valid empties the queue, and a held step joins at the space event, behind the request's own entry (R43, R154). In MOVING and
SUSPENDED it retargets the move (R52, R75): a SETTING move of the host's with a new target position and its counts at 0, in MOVING back in SETTLE
with the valve off, in SUSPENDED still parked; its dwell and pending suspend are kept and no lot is closed. In RELIEVED and RESTORING it retargets
the context, whose suspended flag is kept; without a context, and in CALIBRATING, its entry is the sole one in the queue (R53). In IDLE it
acts as APPEND: its entry is activated at once (R50). -/
def Obligations.ReplaceRetargetsMove : Prop :=
  ∀ (s : State) (i : StationId) (dt target tag : Nat), s.HearsFor i → (s.st i).record.zValid = true →
    (s.st i).gap.Whole → (s.st i).gap.dryRun = false →
    let st := s.st i
    let held := if st.gap.queue = [] then [] else st.heldStep
    let retargeted := fun (m : Move) =>
      { st.aimed target m with kind := .setting, origin := some .link, tag := some tag, pulses := 0, noProgress := 0 }
    let entry := entryUnder st.record.limits target .link (some tag) none
    let taken := fun (t : State) =>
      t.link = s.replied dt 0x01#8 (answer (if entry.clamped then .clamped else .accepted)) ∧
      (t.st i).record = st.record ∧ s.OthersKept t i ∧
      t = { s with
        clock := s.clock + dt, stations := t.stations, raised := t.raised, lotQueue := t.lotQueue, link := t.link }
    let quiet := fun (t : State) => taken t ∧ s.LotsStand t i s.raised ∧
      (t.st i).sched = if st.gap.queue = [] then st.sched else st.sched.spaced
    (st.gap.state = .moving → ∀ m, st.gap.move = some m →
      Takes (.setGapReplace dt i.val target tag) s fun t =>
        quiet t ∧ (t.st i).gap = { st.gap with
          queue := held, openOut := false, closeOut := false
          move := some { retargeted m with phase := .settle (t.clock + msTicks st.record.gapTuning.settle) } }) ∧
    (st.gap.state = .suspended → ∀ m, st.gap.move = some m →
      Takes (.setGapReplace dt i.val target tag) s fun t =>
        quiet t ∧ (t.st i).gap = { st.gap with queue := held, move := some (retargeted m) }) ∧
    (st.gap.state = .relieved ∨ st.gap.state = .restoring → ∀ c, st.gap.context = some c →
      Takes (.setGapReplace dt i.val target tag) s fun t =>
        quiet t ∧ (t.st i).gap = { st.gap with queue := held, context := some { c with move := retargeted c.move } }) ∧
    (st.gap.state = .relieved ∨ st.gap.state = .restoring ∨ st.gap.state = .calibrating → st.gap.context = none →
      Takes (.setGapReplace dt i.val target tag) s fun t =>
        quiet t ∧ (t.st i).gap = { st.gap with queue := entry :: held }) ∧
    (st.gap.state = .idle → st.gap.queue = [] →
      Takes (.setGapReplace dt i.val target tag) s fun t =>
        taken t ∧ s.Activates t i st.gap entry st.heldStep s.raised ∧ (t.st i).sched = st.sched.spaced)

/-- CANCEL GAP (R54, R55): PENDING empties the queue and touches nothing else where no held step waits, and is IGNORED on an empty queue. ACTIVE ends a move
CANCELLED, and the station goes to IDLE, where the oldest entry is activated or a due trim begins, or to UNREFERENCED (R40, R44, R47); in RELIEVED and
RESTORING it drops the context, RESTORING it drops the context, whose move ends CANCELLED (R81), and the relief goes on; elsewhere it is IGNORED. ALL empties the queue first and then
does as ACTIVE. The clauses on ACTIVE and ALL speak of dry run off, and those on ALL of no held step and of a move or a context.
The model's own: a TRIM move that is dropped with its context sets the trim-inhibit flag, log 12 of the assumption log. -/
def Obligations.CancelEndsMove : Prop :=
  (∀ (s : State) (i : StationId) (dt : Ticks), s.HearsFor i → (s.st i).sched.pending = false →
    Takes (.cancelGapPending dt i.val) s fun t =>
      t.link = s.replied dt 0x02#8 (answer (if (s.st i).gap.queue = [] then .ignored else .done)) ∧
      (t.st i).gap = { (s.st i).gap with queue := [] } ∧ (t.st i).record = (s.st i).record ∧
      (t.st i).lots = (s.st i).lots ∧ s.OthersKept t i ∧
      t = { s with clock := s.clock + dt, stations := t.stations, link := t.link }) ∧
  (∀ (s : State) (i : StationId) (dt : Ticks), s.HearsFor i → (s.st i).gap.dryRun = false → (s.st i).gap.Whole →
    let done := fun (t : State) =>
      t.link = s.replied dt 0x02#8 (answer .done) ∧ (t.st i).record = (s.st i).record ∧ s.OthersKept t i ∧
      t = { s with
        clock := s.clock + dt, stations := t.stations, raised := t.raised, lotQueue := t.lotQueue, link := t.link }
    let x := s.raised ||| sourceBit (8 * i.val)
    ((s.st i).gap.state = .moving ∨ (s.st i).gap.state = .suspended → ∀ m, (s.st i).gap.move = some m →
      let g := { (s.st i).ended m .cancelled with openOut := false, closeOut := false }
      Takes (.cancelGapActive dt i.val) s (fun t => done t ∧ s.Rests t i g x) ∧
      ((s.st i).sched.pending = false →
        Takes (.cancelGapAll dt i.val) s fun t => done t ∧ s.Rests t i { g with queue := [] } x)) ∧
    ((s.st i).gap.state = .relieved ∨ (s.st i).gap.state = .restoring → ∀ c, (s.st i).gap.context = some c →
      let g := { (s.st i).ended c.move .cancelled with context := none, move := (s.st i).gap.move }
      Takes (.cancelGapActive dt i.val) s (fun t => done t ∧ (t.st i).gap = g ∧ s.LotsStand t i x) ∧
      ((s.st i).sched.pending = false →
        Takes (.cancelGapAll dt i.val) s fun t => done t ∧ (t.st i).gap = { g with queue := [] } ∧ s.LotsStand t i x)) ∧
    ((s.st i).gap.state ≠ .moving → (s.st i).gap.state ≠ .suspended → (s.st i).gap.context = none →
      Takes (.cancelGapActive dt i.val) s fun t =>
        t = { s with clock := s.clock + dt, link := s.replied dt 0x02#8 (answer .ignored) }))

/-- SUSPEND MOVE in MOVING with no dwell suspends the move at once, its valve off (R76), and with dry run on the simulated position takes a pulse that is cut (R71); with a dwell
running it is pending. Where it is pending already, and in every other state, it is IGNORED. RESUME MOVE from SUSPENDED computes the target position
afresh, keeps the pulse count and starts the dwell (R75, R78); in MOVING it clears a pending suspend while the dwell runs on, in RELIEVED and RESTORING
it clears the suspended flag of a context, and elsewhere it is IGNORED (R78).
The model's own: the running time of a cut pulse, no more than its width, log 13 of the assumption log. -/
def Obligations.SuspendAndResume : Prop :=
  let ignored := fun (s t : State) (dt : Ticks) (kind : Byte) =>
    t = { s with clock := s.clock + dt, link := s.replied dt kind (answer .ignored) }
  (∀ (s : State) (i : StationId) (dt : Ticks) (m : Move), s.HearsFor i → (s.st i).gap.state = .moving →
    (s.st i).gap.move = some m → m.pendingSuspend = false → (s.st i).gap.Whole → (s.st i).gap.dryRun = false →
    Takes (.suspendMove dt i.val) s fun t =>
      t.link = s.replied dt 0x03#8 (answer .done) ∧ s.OthersKept t i ∧
      t = { s with clock := s.clock + dt, stations := t.stations, link := t.link } ∧
      if m.dwell = none then
        ∃ m', m' = { m with phase := .parked, loadWaited := m'.loadWaited } ∧
          (t.st i).gap = { (s.st i).gap with
            state := .suspended, openOut := false, closeOut := false, move := some m' }
      else (t.st i).gap = { (s.st i).gap with move := some { m with pendingSuspend := true } }) ∧
  (∀ (s : State) (i : StationId) (dt eff : Nat) (m : Move), s.HearsFor i → (s.st i).gap.state = .suspended →
    (s.st i).gap.move = some m → m.eff = some eff →
    Takes (.resumeMove dt i.val) s fun t =>
      let r := (s.st i).record
      let eff' := clampTo r.limits.cssMin r.limits.cssMax eff
      let raw := r.z - ((eff' - (s.st i).gap.w) * 256 + r.gapTuning.k / 2) / r.gapTuning.k
      let pt := clampTo r.limits.pMin r.limits.pMax raw
      t.link = s.replied dt 0x04#8 (answer (if eff' = eff then .done else .clamped)) ∧
      (t.st i).gap = { (s.st i).gap with
        state := .moving
        move := some { m with
          eff := some eff', pt := some pt, strokeClamped := pt != raw, dir := none, pBefore := none, loadWaited := 0
          phase := .settle (s.clock + dt + msTicks r.gapTuning.settle), pendingSuspend := false
          dwell := if r.gapTuning.resumeDwell = 0 then none
            else some (s.clock + dt + msTicks r.gapTuning.resumeDwell) } } ∧
      (t.st i).feed.gapMove = true ∧ s.OthersKept t i ∧
      t = { s with clock := s.clock + dt, stations := t.stations, link := t.link }) ∧
  (∀ (s : State) (i : StationId) (dt p : Nat) (m : Move), s.HearsFor i → (s.st i).gap.state = .moving →
    (s.st i).gap.move = some m → m.pendingSuspend = false → m.dwell = none → (s.st i).gap.Whole →
    (s.st i).gap.dryRun = true → (s.st i).gap.sim = some p →
    Takes (.suspendMove dt i.val) s fun t =>
      t.link = s.replied dt 0x03#8 (answer .done) ∧ s.OthersKept t i ∧
      ∃ m', m' = { m with phase := .parked, loadWaited := m'.loadWaited } ∧
        (t.st i).gap = { (s.st i).gap with
          state := .suspended, move := some m', sim := some ((s.st i).simCut (s.clock + dt) p) }) ∧
  (∀ (s : State) (i : StationId) (dt : Ticks) (m : Move), s.HearsFor i → (s.st i).gap.state = .moving →
    (s.st i).gap.move = some m →
    (m.pendingSuspend = true →
      Takes (.suspendMove dt i.val) s (fun t => ignored s t dt 0x03#8) ∧
      Takes (.resumeMove dt i.val) s fun t =>
        t = { s.stationAt (s.clock + dt) i { s.st i with
            gap := { (s.st i).gap with move := some { m with pendingSuspend := false } } } with
          link := s.replied dt 0x04#8 (answer .done) }) ∧
    (m.pendingSuspend = false → Takes (.resumeMove dt i.val) s fun t => ignored s t dt 0x04#8)) ∧
  ∀ (s : State) (i : StationId) (dt : Ticks), s.HearsFor i → (s.st i).gap.state ≠ .moving →
    Takes (.suspendMove dt i.val) s (fun t => ignored s t dt 0x03#8) ∧
    ((s.st i).gap.state = .relieved ∨ (s.st i).gap.state = .restoring →
      ∀ c, (s.st i).gap.context = some c → c.suspended = true →
      Takes (.resumeMove dt i.val) s fun t =>
        t = { s.stationAt (s.clock + dt) i { s.st i with
            gap := { (s.st i).gap with context := some { c with suspended := false } } } with
          link := s.replied dt 0x04#8 (answer .done) }) ∧
    ((s.st i).gap.state ≠ .suspended →
      ((s.st i).gap.state = .relieved ∨ (s.st i).gap.state = .restoring →
        ∀ c, (s.st i).gap.context = some c → c.suspended = false) →
      Takes (.resumeMove dt i.val) s fun t => ignored s t dt 0x04#8)

/-- CALIBRATE in IDLE or UNREFERENCED with a position in use begins a calibration in DRAIN with its timeout, stops the feeder by CALIBRATION, and evaluates the drain condition at
once (R56, R103 to R105). -/
def Obligations.CalibrateBeginsDrain : Prop :=
  ∀ (s : State) (i : StationId) (dt p : Nat), s.HearsFor i →
    (s.st i).gap.state = .idle ∨ (s.st i).gap.state = .unreferenced → (s.st i).posInUse = some p →
    (s.st i).FeedHolds →
    Takes (.calibrate dt i.val) s fun t =>
      let g := (s.st i).record.gapTuning
      let drained := decide ((s.st i).power.reading ≤ g.idlePower) && (match (s.st i).levelReading with
        | none => true
        | some l => decide (l ≤ g.emptyLevel))
      t.link = s.replied dt 0x05#8 (answer .accepted) ∧
      (t.st i).gap = { (s.st i).gap with
        state := .calibrating
        calibration := some
          { phase := .drain, pStart := p, hadZero := (s.st i).record.zValid
            drainTimer := some (s.clock + dt + secTicks g.drainTimeout)
            quietTimer := if drained then some (s.clock + dt + secTicks 10) else none, seekPulses := 0
            zNew := none } } ∧
      (t.st i).feed.stops.calibration = true ∧ (t.st i).feed.output = 0 ∧ (t.st i).record = (s.st i).record ∧
      s.OthersKept t i ∧ t = { s with clock := s.clock + dt, stations := t.stations, link := t.link }

/-- CHANGE LINERS in IDLE or UNREFERENCED with the feeder at 0 clears the zero-valid flag, M_cal, W, the history, the standing target and the trim-inhibit flag, sets R to R0,
keeps the calibration number, stops the schedule, and requests a write of the record (R57, R116, R186): an idle writer begins it, and behind a busy
writer the station joins the pending set, but where its record still waits in the STORE sequence (R185, R186). With the feeder above 0 it is refused
WRONG_STATE. -/
def Obligations.ChangeLinersClearsWear : Prop :=
  ∀ (s : State) (i : StationId) (dt : Ticks), s.HearsFor i →
    (s.st i).gap.state = .idle ∨ (s.st i).gap.state = .unreferenced →
    Takes (.changeLiners dt i.val) s fun t =>
      if (s.st i).feed.output = 0 then
        let r := { (s.st i).record with
          zValid := false, mCal := 0, r := (s.st i).record.gapTuning.r0, history := [] }
        t.link = s.replied dt 0x06#8 (answer .done) ∧
        t.st i = { s.st i with
          record := r
          gap := { (s.st i).gap with
            state := .unreferenced, queue := [], standing := none, trimInhibit := false, w := 0 }
          sched := scheduleStopped (s.st i).sched } ∧
        (∀ j, j ≠ i → t.st j = s.st j) ∧
        (s.writer = .idle → t.writer = .station i r (s.clock + dt) ∧ t.inSequence = false ∧
          t.pendingWrites = s.pendingWrites) ∧
        (s.writer ≠ .idle → t.writer = s.writer ∧ t.inSequence = s.inSequence ∧
          ∀ j, setHas t.pendingWrites j = (setHas s.pendingWrites j || (j == i && !s.storeSeq.contains i))) ∧
        t.storeSeq = s.storeSeq ∧ t.lotQueue = s.lotQueue ∧ t.device = s.device ∧ t.clock = s.clock + dt
      else
        t = { s with clock := s.clock + dt, link := s.replied dt 0x06#8 (answer .wrongState) }

/-- TUNE GAP in IDLE, UNREFERENCED, ISOLATED or FAULTED replaces the gap tuning by the carried values brought into range, and is refused WRONG_STATE elsewhere (R58). SET LIMITS
with KEY active and no reversed pair replaces the limits in every state, clears the trim-inhibit flag, and W follows the new Wmax (R29, R60); with KEY
inactive it is refused LOCKED.
The model's own: KEY as an operand, whose level stands in the pins, log 23 of the assumption log. -/
def Obligations.TuneGapAndSetLimits : Prop :=
  (∀ (s : State) (i : StationId) (dt : Ticks) (v : GapTuning), s.HearsFor i →
    Takes (.tuneGap dt i.val v) s fun t =>
      let u := gapTuningTaken v
      u.tMin ≤ u.tMax ∧
      if (s.st i).gap.state = .idle ∨ (s.st i).gap.state = .unreferenced ∨ (s.st i).gap.state = .isolated ∨
          (s.st i).gap.state = .faulted then
        t = { s.stationAt (s.clock + dt) i { s.st i with record := { (s.st i).record with gapTuning := u } } with
          link := s.replied dt 0x07#8 (answer (if u = v then .done else .clamped)) }
      else t = { s with clock := s.clock + dt, link := s.replied dt 0x07#8 (answer .wrongState) }) ∧
  (∀ (s : State) (i : StationId) (dt : Ticks) (v : Limits), s.HearsFor i → v.cssMin ≤ v.cssMax → v.pMin ≤ v.pMax →
    Takes (.setLimits dt i.val v true) s fun t =>
      let l := limitsTaken v
      t.link = s.replied dt 0x08#8 (answer (if l = v then .done else .clamped)) ∧
      l.cssMin ≤ l.cssMax ∧ l.pMin ≤ l.pMax ∧
      t.st i = { s.st i with
        record := { (s.st i).record with limits := l }
        gap := { (s.st i).gap with
          trimInhibit := false, w := wearEstimate l.wMax (s.st i).record.mCal (s.st i).record.r } } ∧
      (∀ j, j ≠ i → t.st j = s.st j) ∧ t.pins = { s.pins with key := true } ∧
      t = { s with
        clock := s.clock + dt, stations := t.stations, raised := t.raised, link := t.link, pins := t.pins }) ∧
  (∀ (s : State) (i : StationId) (dt : Ticks) (v : Limits), s.HearsFor i →
    Takes (.setLimits dt i.val v false) s fun t =>
      t = { s with
        clock := s.clock + dt, pins := { s.pins with key := false }
        link := s.replied dt 0x08#8 (answer .locked) })

/-! ## Service -/

/-- ISOLATE in IDLE, UNREFERENCED, MOVING or SUSPENDED stops the schedule, empties the queue, ends a move ISOLATED, and stops the feeder by ISOLATED (R156); the standing target, the open lot
and the record are kept. Its release goes to IDLE, where a due trim begins (R40, R47), or UNREFERENCED, or to FAULTED with POSITION_LOST where the position is not valid and dry run is
off (R157). -/
def Obligations.IsolateAndRelease : Prop :=
  (∀ (s : State) (i : StationId) (dt : Ticks), s.HearsFor i →
    (s.st i).gap.state = .idle ∨ (s.st i).gap.state = .unreferenced ∨ (s.st i).gap.state = .moving ∨
      (s.st i).gap.state = .suspended → (s.st i).gap.Whole → (s.st i).FeedHolds →
    Takes (.isolate dt i.val) s fun t =>
      t.link = s.replied dt 0x0E#8 (answer .done) ∧ (t.st i).gap.state = .isolated ∧ (t.st i).gap.queue = [] ∧
      (t.st i).gap.move = none ∧ (t.st i).gap.openOut = false ∧ (t.st i).gap.closeOut = false ∧
      (t.st i).sched = scheduleStopped (s.st i).sched ∧ (t.st i).feed.stops.isolated = true ∧
      (t.st i).feed.output = 0 ∧ (t.st i).gap.standing = (s.st i).gap.standing ∧ (t.st i).lots = (s.st i).lots ∧
      (t.st i).record = (s.st i).record ∧ (t.st i).gap.onsets = (s.st i).gap.onsets ∧
      (∀ m, (s.st i).gap.move = some m → t.Raised (8 * i.val) ∧
        ∃ x, (t.st i).gap.lastMove = some x ∧ x.result = .isolated ∧ x.eff = m.eff) ∧ s.OthersKept t i) ∧
  (∀ (s : State) (i : StationId) (dt : Ticks), s.HearsFor i → (s.st i).gap.state = .isolated →
    Takes (.releaseIsolate dt i.val) s fun t =>
      t.link = s.replied dt 0x0E#8 (answer .done) ∧ (t.st i).feed.stops.isolated = false ∧
      (if (s.st i).gap.dryRun = false ∧ (s.st i).pos.valid = false then
        (t.st i).gap.state = .faulted ∧ (t.st i).gap.cause = some .positionLost ∧
          (t.st i).feed.stops.fault = true ∧ t.Raised (8 * i.val + 3) ∧ (t.st i).lots = (s.st i).lots
      else s.Rests t i (s.st i).gap s.raised) ∧
      (t.st i).record = (s.st i).record ∧ s.OthersKept t i)

/-- DRY RUN on in IDLE or UNREFERENCED seeds the simulated position with the position in use and stops the feeder by DRY_RUN; DRY RUN off clears it and abandons a test, sets the
invalid-sample run to 0 and the tramp filter inactive, and keeps the simulated position for the next sample (R158, R4, R17).
The model's own: an older simulated position that still stands is the position in use that DRY RUN on takes, log 16 of the assumption log. -/
def Obligations.DryRunOnAndOff : Prop :=
  ∀ (s : State) (i : StationId) (dt : Ticks), s.HearsFor i →
    (s.st i).gap.state = .idle ∨ (s.st i).gap.state = .unreferenced →
    (∀ p, (s.st i).posInUse = some p → (s.st i).gap.dryRun = false → (s.st i).FeedHolds →
      Takes (.dryRunOn dt i.val) s fun t =>
        t.link = s.replied dt 0x0F#8 (answer .done) ∧
        (t.st i).gap = { (s.st i).gap with dryRun := true, sim := some p } ∧ (t.st i).feed.stops.dryRun = true ∧
        (t.st i).feed.output = 0 ∧ (t.st i).pos = (s.st i).pos ∧ (t.st i).record = (s.st i).record ∧
        s.OthersKept t i ∧ t = { s with clock := s.clock + dt, stations := t.stations, link := t.link }) ∧
    ((s.st i).gap.dryRun = true →
      Takes (.dryRunOff dt i.val) s fun t =>
        t.link = s.replied dt 0x0F#8 (answer .done) ∧
        (t.st i).gap = { (s.st i).gap with dryRun := false, testTimer := none, simTramp := false } ∧
        (t.st i).pos = { (s.st i).pos with run := 0 } ∧ (t.st i).tramp = { level := false, run := 0 } ∧
        (t.st i).feed.stops.dryRun = false ∧ (t.st i).record = (s.st i).record ∧ s.OthersKept t i ∧
        t = { s with clock := s.clock + dt, stations := t.stations, link := t.link })

/-- TEST TRAMP under dry run takes a tramp onset in every state, then lowers the simulated position by the relief displacement, clamped at 0, and starts the test's timer with the
duration clamped into [100, 10,000] ms (R160). The onset is listed and raises TRAMP (R86). Below the tramp limit it makes the station RELIEVED by the rule
of its state (R89 to R93): P_save is the position before the displacement and after the cut of a pulse, in CALIBRATING P_start. The onset that reaches the limit faults the station with
cause TRAMP_REPEAT, its work ended with results (R87, R88). In ISOLATED and FAULTED it changes nothing else (R94). With dry run off TEST TRAMP is refused
WRONG_STATE, with a test running BUSY.
The model's own: the running time of a cut pulse, no more than its width, log 13 of the assumption log. -/
def Obligations.TestTrampTakesOnset : Prop :=
  ∀ (s : State) (i : StationId) (dt duration p : Nat), s.HearsFor i →
    ((s.st i).gap.state = .idle → (s.st i).gap.dryRun = true → (s.st i).gap.testTimer = none →
      (s.st i).gap.sim = some p → (s.st i).gap.onsets.length + 1 < (s.st i).record.gapTuning.trampLimit →
      Takes (.testTramp dt i.val duration) s fun t =>
        let d := clampTo 100 10000 duration
        t.link = s.replied dt 0x10#8 (answer (if d = duration then .done else .clamped)) ∧
        (t.st i).gap = { (s.st i).gap with
          state := .relieved, pSave := some p, noRestore := false, holdTimer := none
          sim := some (p - (s.st i).record.gapTuning.reliefDisp), simTramp := true
          testTimer := some (s.clock + dt + msTicks d), onsets := (t.st i).gap.onsets } ∧
        (t.st i).gap.onsets =
          listOnset (s.st i).record.gapTuning.trampWindow t.runningTime (s.st i).gap.onsets ∧
        t.Raised (8 * i.val + 2) ∧ (t.st i).feed.stops.tramp = true ∧ (t.st i).record = (s.st i).record ∧
        s.OthersKept t i) ∧
    ((s.st i).gap.dryRun = false →
      Takes (.testTramp dt i.val duration) s fun t =>
        t = { s with clock := s.clock + dt, link := s.replied dt 0x10#8 (answer .wrongState) }) ∧
    ((s.st i).gap.dryRun = true → (s.st i).gap.testTimer ≠ none →
      Takes (.testTramp dt i.val duration) s fun t =>
        t = { s with clock := s.clock + dt, link := s.replied dt 0x10#8 (answer .busy) }) ∧
    ((s.st i).gap.dryRun = true → (s.st i).gap.testTimer = none → (s.st i).gap.sim = some p → (s.st i).gap.Whole →
      (s.st i).FeedHolds → (s.st i).ReasonsAgree →
      Takes (.testTramp dt i.val duration) s fun t =>
        let g := (s.st i).gap
        let g' := (t.st i).gap
        let u := (s.st i).record.gapTuning
        let d := clampTo 100 10000 duration
        let cut := (s.st i).simCut t.clock p
        t.clock = s.clock + dt ∧ t.link = s.replied dt 0x10#8 (answer (if d = duration then .done else .clamped)) ∧
        g'.onsets = listOnset u.trampWindow t.runningTime g.onsets ∧ t.Raised (8 * i.val + 2) ∧
        g'.simTramp = true ∧ g'.testTimer = some (t.clock + msTicks d) ∧ g'.dryRun = true ∧
        g'.standing = g.standing ∧ (t.st i).record = (s.st i).record ∧ (t.st i).lots = (s.st i).lots ∧
        s.OthersKept t i ∧ t = { s with clock := t.clock, stations := t.stations, raised := t.raised, link := t.link } ∧
        if g.state = .isolated ∨ g.state = .faulted then
          t.raised = s.raised ||| sourceBit (8 * i.val + 2) ∧ (t.st i).sched = (s.st i).sched ∧
          (s.st i).feed.Chained (t.st i).feed ∧
          g' = { g with
            onsets := g'.onsets, simTramp := true, sim := some (p - u.reliefDisp), testTimer := g'.testTimer }
        else
          g'.sim = some (cut - u.reliefDisp) ∧ g'.move = none ∧ g'.calibration = none ∧ g'.holdTimer = none ∧
          g'.openOut = false ∧ g'.closeOut = false ∧ (t.st i).feed.output = 0 ∧ (t.st i).feed.gapMove = false ∧
          (t.st i).feed.gapLoadWait = false ∧ (t.st i).feed.stops.calibration = false ∧
          (∀ c, g.calibration = some c → t.Raised (8 * i.val + 1) ∧
            ∃ x, g'.lastCal = some x ∧ x.result = .aborted ∧ x.pStart = c.pStart) ∧
          if u.trampLimit ≤ g'.onsets.length then
            g'.state = .faulted ∧ g'.cause = some .trampRepeat ∧ g'.queue = [] ∧ g'.context = none ∧
            g'.pSave = none ∧ g'.noRestore = false ∧ (t.st i).sched = scheduleStopped (s.st i).sched ∧
            (t.st i).feed.stops.fault = true ∧ (t.st i).feed.stops.tramp = false ∧ t.Raised (8 * i.val + 3) ∧
            (∀ m, g.move = some m → m.kind = .setting ∨ m.kind = .trim → t.Raised (8 * i.val) ∧
              ∃ x, g'.lastMove = some x ∧ x.result = .faulted ∧ x.eff = m.eff ∧ x.finalPos = some cut) ∧
            (∀ c, g.context = some c → t.Raised (8 * i.val) ∧
              ∃ x, g'.lastMove = some x ∧ x.result = .faulted ∧ x.eff = c.move.eff ∧ x.finalPos = some cut)
          else
            g'.state = .relieved ∧ g'.queue = g.queue ∧ g'.lastMove = g.lastMove ∧ g'.cause = g.cause ∧
            (t.st i).sched = (s.st i).sched ∧ (t.st i).feed.stops.tramp = true ∧
            (if g.state = .relieved ∨ g.state = .restoring then
              g'.pSave = g.pSave ∧ g'.noRestore = g.noRestore ∧ g'.context = g.context
            else
              g'.noRestore = false ∧
              (match g.calibration with
                | none => g'.pSave = some cut
                | some c => g'.pSave = some c.pStart) ∧
              if g.state = .moving ∨ g.state = .suspended then
                ∃ m, g.move = some m ∧ ∃ c, g'.context = some c ∧ c.suspended = decide (g.state = .suspended) ∧
                  c.move = { m with
                    phase := .parked, dwell := none, pendingSuspend := false, loadWaited := c.move.loadWaited }
              else g'.context = none))

/-- HALT at the station it names, or with 255 at every present station, addressed or from a broadcast frame, which a device with address 0 takes as well and
nobody answers, in every gap state (R161, R162, R166, R170): the open lot closes CUT, its record joining the lot queue or dropped with LOT LOSS where 16
stand (R145, R146, R149), the schedule is stopped, the queue empty, the standing target and the trim-inhibit flag cleared, the feed mode STOP with
the output at 0 and the demand at rate_min, the manual rate kept, both valves off; a move ends HALTED, a calibration CAL_ABORTED, a relief is marked
for no restore, and ISOLATED and FAULTED stay.
The model's own: a TRIM move that HALT ends leaves the trim-inhibit flag clear, log 11, and the order of several closing lots, log 8 of the assumption
log. -/
def Obligations.HaltBringsToRest : Prop :=
  ∀ (s : State) (dt : Ticks) (bcast : Bool) (n : Nat), s.HearsFrame bcast → n = 255 ∨ (∃ i, s.Names n i) →
    (∀ i, s.Names n i → (s.st i).gap.Whole ∧ (s.st i).FeedHolds ∧ (s.st i).ReasonsAgree) →
    Takes (.halt dt bcast n) s fun t =>
      t.link = s.answeredTo dt bcast 0x11#8 (answer .done) ∧
      (∀ i, s.Names n i →
        (t.st i).sched = scheduleStopped (s.st i).sched ∧ (t.st i).gap.queue = [] ∧
        (t.st i).gap.standing = none ∧ (t.st i).gap.trimInhibit = false ∧ (t.st i).feed.mode = .stop ∧
        (t.st i).feed.output = 0 ∧ (t.st i).feed.demand = (s.st i).record.feedTuning.rateMin ∧
        (t.st i).feed.manualRate = (s.st i).feed.manualRate ∧ (t.st i).gap.openOut = false ∧
        (t.st i).gap.closeOut = false ∧ (t.st i).gap.move = none ∧ (t.st i).gap.calibration = none ∧
        (t.st i).gap.context = none ∧
        (t.st i).gap.state = (match (s.st i).gap.state with
          | .moving => restState (s.st i).record.zValid
          | .suspended => restState (s.st i).record.zValid
          | .calibrating => restState (s.st i).record.zValid
          | .restoring => restState (s.st i).record.zValid
          | g => g) ∧
        ((s.st i).gap.state = .relieved → (t.st i).gap.noRestore = true ∧
          (t.st i).gap.holdTimer = (s.st i).gap.holdTimer ∧ (t.st i).gap.pSave = (s.st i).gap.pSave) ∧
        (∀ m, (s.st i).gap.state = .moving ∨ (s.st i).gap.state = .suspended → (s.st i).gap.move = some m →
          t.Raised (8 * i.val) ∧ ∃ x, (t.st i).gap.lastMove = some x ∧ x.result = .halted ∧ x.tag = m.tag) ∧
        (∀ c, (s.st i).gap.context = some c →
          t.Raised (8 * i.val) ∧ ∃ x, (t.st i).gap.lastMove = some x ∧ x.result = .halted ∧ x.tag = c.move.tag) ∧
        ((s.st i).gap.state = .calibrating →
          t.Raised (8 * i.val + 1) ∧ ∃ x, (t.st i).gap.lastCal = some x ∧ x.result = .aborted) ∧
        (t.st i).record = (s.st i).record ∧ (t.st i).gap.cause = (s.st i).gap.cause ∧
        (t.st i).gap.onsets = (s.st i).gap.onsets ∧ (t.st i).gap.dryRun = (s.st i).gap.dryRun ∧
        (t.st i).pos = (s.st i).pos) ∧
      (∀ i, s.Names n i →
        (t.st i).lots = { (s.st i).lots with
          lot := none, dropped := (t.st i).lots.dropped
          leanTimer := if (s.st i).lots.lot = none then (s.st i).lots.leanTimer else none } ∧
        ((s.st i).lots.lot = none → (t.st i).lots.dropped = (s.st i).lots.dropped) ∧
        ∀ l, (s.st i).lots.lot = some l →
          let record := l.closed i .cut (s.st i).gap.w
          (s.lotQueue.length ≤ 12 → record ∈ t.lotQueue ∧ (s.lotQueue = [] → t.Raised 33)) ∧
          (s.lotQueue.length ≤ 12 ∨ 16 ≤ s.lotQueue.length ∨ n ≠ 255 → (t.st i).lots = s.lotsClosed i) ∧
          (16 ≤ s.lotQueue.length → t.lotQueue = s.lotQueue ∧ t.Raised 34) ∧
          (n ≠ 255 → s.LotJoins t record)) ∧
      ((∀ i, s.Names n i → (s.st i).lots.lot = none) → t.lotQueue = s.lotQueue) ∧
      (∀ j, ¬ s.Names n j → (s.st j).Kept (t.st j)) ∧
      t = { s with
        clock := s.clock + dt, stations := t.stations, raised := t.raised, lotQueue := t.lotQueue, link := t.link
        freeCount := t.freeCount }

/-- RESET STATION in every gap state (R163, R20, R140, R148): the open lot closes CUT, its record joining the lot queue or dropped with LOT LOSS where 16
stand (R145, R146, R149); no lot, an EMPTY schedule, a gap channel with its power-on values but W, in IDLE or UNREFERENCED; the regulator in STOP at 0 with
no reason; counters 0; the station's eight sources clear and no other source cleared; the record kept. -/
def Obligations.ResetStationRestores : Prop :=
  ∀ (s : State) (i : StationId) (dt : Ticks), s.HearsFor i →
    Takes (.resetStation dt i.val) s fun t =>
      t.link = s.replied dt 0x12#8 (answer .done) ∧ (t.st i).lots = lotAccumulatorFresh ∧
      (t.st i).sched = scheduleFresh ∧
      (t.st i).gap = { gapChannelFresh (s.st i).record with
        w := (s.st i).gap.w, state := restState (s.st i).record.zValid } ∧
      (t.st i).feed.mode = .stop ∧ (t.st i).feed.output = 0 ∧
      (t.st i).feed.demand = (s.st i).record.feedTuning.rateMin ∧ (t.st i).feed.manualRate = 0 ∧
      (t.st i).feed.prevError = none ∧ (t.st i).feed.stops = noStops ∧ (t.st i).feed.gapMove = false ∧
      (t.st i).feed.gapLoadWait = false ∧ (t.st i).feed.powerHigh = false ∧
      (t.st i).feed.controlTimer = (s.st i).feed.controlTimer ∧ (t.st i).record = (s.st i).record ∧
      (t.st i).pos = { (s.st i).pos with run := 0 } ∧ (t.st i).power = (s.st i).power ∧
      (t.st i).scale = (s.st i).scale ∧ (t.st i).tramp = { level := false, run := 0 } ∧
      (t.st i).level = { (s.st i).level with
        lostTimer := if (s.st i).level.lost then
            some (s.clock + dt + secTicks (s.st i).record.feedTuning.levelLostTimeout)
          else (s.st i).level.lostTimer } ∧
      (match (s.st i).lots.lot with
        | none => t.lotQueue = s.lotQueue
        | some l => s.LotJoins t (l.closed i .cut (s.st i).gap.w)) ∧
      (∀ n, 8 * i.val ≤ n → n < 8 * i.val + 8 → ¬ t.Raised n) ∧
      (∀ n, n < 8 * i.val ∨ 8 * i.val + 8 ≤ n → s.Raised n → t.Raised n) ∧ t.masks = s.masks ∧ s.OthersKept t i

/-- CLEAR FAULT in FAULTED tests whether the held cause is gone (R165): POSITION_LOST needs a valid position, TRAMP_REPEAT an inactive accepted tramp level, RESTORE_STALLED nothing. Where it is, the
onset list is emptied, the cause and FAULT are removed, and the station goes to IDLE, where a due trim begins (R40, R47), or to UNREFERENCED; where it is not, WRONG_STATE, and nothing
changes; outside FAULTED, IGNORED. -/
def Obligations.ClearFaultTestsCause : Prop :=
  ∀ (s : State) (i : StationId) (dt : Ticks), s.HearsFor i →
    Takes (.clearFault dt i.val) s fun t =>
      let gone := match (s.st i).gap.cause with
        | some .positionLost => (s.st i).pos.valid
        | some .trampRepeat => !(if (s.st i).gap.dryRun then (s.st i).gap.simTramp else (s.st i).tramp.level)
        | _ => true
      if (s.st i).gap.state ≠ .faulted then
        t = { s with clock := s.clock + dt, link := s.replied dt 0x13#8 (answer .ignored) }
      else if gone = false then
        t = { s with clock := s.clock + dt, link := s.replied dt 0x13#8 (answer .wrongState) }
      else
        t.link = s.replied dt 0x13#8 (answer .done) ∧
        s.Rests t i { (s.st i).gap with onsets := [], cause := none } s.raised ∧
        (t.st i).feed.stops.fault = false ∧ (t.st i).record = (s.st i).record ∧ s.OthersKept t i ∧
        t = { s with
          clock := s.clock + dt, stations := t.stations, raised := t.raised, lotQueue := t.lotQueue, link := t.link }

/-! ## Reading, attention, the store and the device record -/

/-- READ STATION, READ WEAR, READ DEVICE and READ ATTENTION are answered DONE with their records and change nothing but the link (R173, R175 to R177, R180); the records of a station whose queue
and history keep their bounds have 161 and 192 bytes, the others 9 and 10 (13.5, R191). Each record carries its fields at the offsets of 13.5 with the
codes of 13.4, most significant byte first; an absent field, slot, move or result is sent as zero, with its presence bit clear (R191).
The model's own: KEY as an operand, log 23, and the phase 00h outside MOVING, RESTORING and CALIBRATING, log 15 of the assumption log. -/
def Obligations.ReadingAnswersRecords : Prop :=
  (∀ (s : State) (i : StationId) (dt : Ticks), s.HearsFor i →
    Takes (.readStation dt i.val) s (fun t =>
      t = { s with
        clock := s.clock + dt
        link := s.replied dt 0x14#8 { code := .done, record := stationStatus (s.clock + dt) (s.st i) } }) ∧
    Takes (.readWear dt i.val) s fun t =>
      t = { s with
        clock := s.clock + dt, link := s.replied dt 0x15#8 { code := .done, record := wearRecord (s.st i) } }) ∧
  (∀ (s : State) (dt : Ticks) (key : Bool), s.Hearing →
    Takes (.readDevice dt key) s (fun t =>
      t = { s with
        clock := s.clock + dt, pins := { s.pins with key := key }
        link := s.replied dt 0x16#8
          { code := .done, record := readDeviceRecord { s with pins := { s.pins with key := key } } } }) ∧
    Takes (.readAttention dt) s fun t =>
      t = { s with
        clock := s.clock + dt, link := s.replied dt 0x17#8 { code := .done, record := readAttentionRecord s } }) ∧
  (∀ (now : Ticks) (st : Station), st.gap.queue.length ≤ 4 →
    (stationStatus now st).length = 161 ∧ CarriesStatus (stationStatus now st) now st) ∧
  (∀ st : Station, st.record.history.length ≤ 8 →
    (wearRecord st).length = 192 ∧ CarriesWear (wearRecord st) st) ∧
  ∀ s : State,
    (readDeviceRecord s).length = 9 ∧ Carries (readDeviceRecord s) 0 s.deviceFields ∧
    (readAttentionRecord s).length = 10 ∧
    Carries (readAttentionRecord s) 0 [(0, 5, s.raised.toNat), (5, 5, s.masks.toNat)] ∧
    (readLotRecord s.lotQueue).length = 20

/-- CLEAR ATTENTION clears exactly the named sources, and is IGNORED where none of them was raised; ATTN follows the unmasked raised set (R179, R180). A source named twice counts once, and
a source number above 35 is refused BAD_VALUE (R192). -/
def Obligations.ClearAttentionClears : Prop :=
  ∀ (s : State) (dt : Ticks) (xs : List Nat), s.Hearing → xs.length ≤ 36 →
    Takes (.clearAttention dt xs) s fun t =>
      t = { s with clock := s.clock + dt, raised := t.raised, link := t.link } ∧
      if ∃ n ∈ xs, 35 < n then t.raised = s.raised ∧ t.link = s.replied dt 0x18#8 (answer .badValue)
      else
        (∀ n, t.Raised n ↔ s.Raised n ∧ n ∉ xs) ∧
        (t.attn = true ↔ ∃ n, t.Raised n ∧ t.masks.getLsbD n = false) ∧
        ((∃ n ∈ xs, s.Raised n) → t.link = s.replied dt 0x18#8 (answer .done)) ∧
        ((∀ n ∈ xs, ¬ s.Raised n) → t.link = s.replied dt 0x18#8 (answer .ignored))

/-- R181: MASK ATTENTION sets or clears the masks of the named sources, and RAISE ATTENTION raises them and does nothing else; each is answered DONE, and ATTN is active exactly while a
raised source is not masked. -/
def Obligations.MaskAndRaiseAttention : Prop :=
  let attnHolds := fun (t : State) => t.attn = true ↔ ∃ n, t.Raised n ∧ t.masks.getLsbD n = false
  ∀ (s : State) (dt : Ticks) (xs : List Nat), s.Hearing → xs.length ≤ 36 → (∀ n ∈ xs, n ≤ 35) →
    Takes (.maskAttentionSet dt xs) s (fun t =>
      t = { s with clock := s.clock + dt, masks := t.masks, link := s.replied dt 0x19#8 (answer .done) } ∧
      (∀ n, t.masks.getLsbD n = true ↔ s.masks.getLsbD n = true ∨ n ∈ xs) ∧ attnHolds t) ∧
    Takes (.maskAttentionClear dt xs) s (fun t =>
      t = { s with clock := s.clock + dt, masks := t.masks, link := s.replied dt 0x19#8 (answer .done) } ∧
      (∀ n, t.masks.getLsbD n = true ↔ s.masks.getLsbD n = true ∧ n ∉ xs) ∧ attnHolds t) ∧
    Takes (.raiseAttention dt xs) s fun t =>
      t = { s with clock := s.clock + dt, raised := t.raised, link := s.replied dt 0x1A#8 (answer .done) } ∧
      (∀ n, t.Raised n ↔ s.Raised n ∨ n ∈ xs) ∧ attnHolds t

/-- STORE with the writer IDLE begins the device record's write with the RAM values of that moment and forms the sequence of the present stations, which leave the pending set (R184, R185); while it
writes, STORE is refused BUSY. A completed write leaves its copy in the store with its check value, and the record reads as the copy, at most 120 ms after it began;
the writer goes on with the sequence, raises STORE DONE at its end, and serves the pending set lowest station first (R186).
The model's own: the moment of the completion, logs 2 and 22, and the bytes under the check value, log 14 of the assumption log. -/
def Obligations.StoreWritesRecords : Prop :=
  (∀ (s : State) (dt : Ticks), s.Hearing →
    Takes (.store dt) s fun t =>
      if s.writer = .idle then
        t = { s with
          clock := s.clock + dt, link := s.replied dt 0x1B#8 (answer .accepted)
          writer := .device s.device (s.clock + dt), storeSeq := stationsInOrder.filter s.present
          inSequence := true, pendingWrites := t.pendingWrites } ∧
        ∀ i, setHas t.pendingWrites i = (setHas s.pendingWrites i && !s.present i)
      else t = { s with clock := s.clock + dt, link := s.replied dt 0x1B#8 (answer .busy) }) ∧
  (∀ (s : State) (wait since : Ticks), s.phase = .running → s.writer.since = some since →
    Takes (.storeWriteComplete wait) s fun t =>
      t.clock = max s.clock (since + min wait 4800000) ∧
      (∀ i r x, s.writer = .station i r x → t.store.station i = some r ∧
        t.store = { s.store with stations := s.store.stations.set i (sealRecord StationRecord.bytes r) }) ∧
      (∀ d x, s.writer = .device d x → t.store.deviceRecord = some d ∧
        t.store = { s.store with device := sealRecord DeviceRecord.bytes d }) ∧
      (∀ i rest, s.inSequence = true → s.storeSeq = i :: rest →
        t.writer = .station i (s.st i).record t.clock ∧ t.storeSeq = rest ∧ t.inSequence = true ∧
        t.raised = s.raised) ∧
      (s.inSequence = true → s.storeSeq = [] → t.Raised 35) ∧
      ((s.inSequence = false ∨ s.storeSeq = []) →
        t.inSequence = false ∧
        (s.pendingWrites = 0#8 → t.writer = .idle) ∧
        ∀ i, setHas s.pendingWrites i = true → (∀ j, j < i → setHas s.pendingWrites j = false) →
          t.writer = .station i (s.st i).record t.clock ∧ setHas t.pendingWrites i = false) ∧
      (∀ i, t.st i = s.st i) ∧ t.link = s.link ∧ t.device = s.device)

/-- CONFIGURE DEVICE replaces the device values, each clamped into its range, and is answered CLAMPED where one was (R189). A station that it makes absent closes its
open lot CUT, the record joining the lot queue or dropped and counted with LOT LOSS where 16 stand (R145, R146, R149), and holds nothing but its record, its lot
numbering with its counters and its schedule, stopped: its channels, gap channel and regulator hold the power-on values (R18, R139, R190). A station that it
makes present enters IDLE or UNREFERENCED with fresh channels, the next interrogation and trigger on the device's grids, and its control interval timer
started; one present before and after keeps its channels, gap channel, record, lots and schedule (R190), its filters' runs 0 on a new filter clock (R13). A
presence set outside 0 to 3 and an unknown filter clock or panel set are refused BAD_VALUE.
The model's own: what an absent station keeps, log 31, the order of several closing lots, log 8, and that an entry exactly at a grid time takes that
time, log 25 of the assumption log. -/
def Obligations.ConfigureDeviceSetsPresence : Prop :=
  ∀ (s : State) (dt : Ticks) (v : DeviceValues), s.Hearing →
    Takes (.configureDevice dt v) s fun t =>
      match filterClockOf v.filterClock, panelSetOf v.panelSet with
      | some f, some p =>
        if v.presence &&& 0xF0#8 ≠ 0#8 then
          t = { s with clock := s.clock + dt, link := s.replied dt 0x1C#8 (answer .badValue) }
        else
          let taken : DeviceRecord :=
            { presence := v.presence, filterClock := f, leanTime := clampTo 10 600 v.leanTime
              lotSize := clampTo 1000 100000000 v.lotSize, checkpoint := clampTo 0 1000000 v.checkpoint
              panelSet := p }
          let closing := fun i => s.present i && !setHas v.presence i && (s.st i).lots.lot.isSome
          t.device = taken ∧ t.clock = s.clock + dt ∧
          t.link = s.replied dt 0x1C#8 (answer (if taken.leanTime = v.leanTime ∧ taken.lotSize = v.lotSize ∧
            taken.checkpoint = v.checkpoint then .done else .clamped)) ∧
          (∀ i, s.present i = true → setHas v.presence i = false →
            t.st i = { stationFresh (s.st i).record with
              lots := { (s.st i).lots with lot := none, leanTimer := none, dropped := (t.st i).lots.dropped }
              sched := scheduleStopped (s.st i).sched } ∧
            ((s.st i).lots.lot = none → (t.st i).lots.dropped = (s.st i).lots.dropped) ∧
            ∀ l, (s.st i).lots.lot = some l →
              let record : LotRecord :=
                { station := i, number := l.number, mass := l.mass, reason := .cut, target := l.target, step := l.step
                  meanPower := if 1 ≤ l.freshCount ∧ l.intervals ≤ 2 * l.freshCount then
                      some ((l.powerSum + l.freshCount / 2) / l.freshCount) else none
                  w := (s.st i).gap.w }
              (s.lotQueue.length ≤ 12 →
                record ∈ t.lotQueue ∧ (t.st i).lots.dropped = (s.st i).lots.dropped ∧
                (s.lotQueue = [] → t.Raised 33)) ∧
              (16 ≤ s.lotQueue.length → t.lotQueue = s.lotQueue ∧ t.Raised 34 ∧
                (t.st i).lots.dropped = min 65535 ((s.st i).lots.dropped + 1)) ∧
              ((∀ j, j ≠ i → closing j = false) → s.lotQueue.length < 16 →
                t.lotQueue = s.lotQueue ++ [record] ∧ (t.st i).lots.dropped = (s.st i).lots.dropped)) ∧
          ((∀ i, closing i = false) → t.lotQueue = s.lotQueue ∧ t.raised = s.raised) ∧
          (∀ i, s.present i = false → setHas v.presence i = true →
            let r := (s.st i).record
            t.st i = { stationFresh r with
              gap := { gapChannelFresh r with state := restState r.zValid }
              feed := { feedRegulatorFresh r.feedTuning with
                controlTimer := some (t.clock + msTicks r.feedTuning.controlInterval)
                chainTimer := (t.st i).feed.chainTimer }
              pos := { positionChannelFresh with nextAt := (t.st i).pos.nextAt }
              level := { levelChannelFresh with nextAt := (t.st i).level.nextAt }
              lots := { (s.st i).lots with lot := none, leanTimer := none }
              sched := (s.st i).sched } ∧
            (s.epoch ≤ s.clock →
              200000 ∣ (t.st i).pos.nextAt - s.epoch ∧ t.clock ≤ (t.st i).pos.nextAt ∧
              (t.st i).pos.nextAt < t.clock + 200000 ∧ 4000000 ∣ (t.st i).level.nextAt - s.epoch ∧
              t.clock ≤ (t.st i).level.nextAt ∧ (t.st i).level.nextAt < t.clock + 4000000)) ∧
          (∀ i, s.present i = setHas v.presence i →
            t.st i = { s.st i with feed := (t.st i).feed, scale := (t.st i).scale, tramp := (t.st i).tramp } ∧
            (s.st i).feed.Chained (t.st i).feed ∧
            (f = s.device.filterClock → (t.st i).scale = (s.st i).scale ∧ (t.st i).tramp = (s.st i).tramp) ∧
            (f ≠ s.device.filterClock → (t.st i).tramp = { (s.st i).tramp with run := 0 } ∧
              (t.st i).scale = (match (s.st i).scale with
                | .undefined last _ => .undefined last 0
                | .defined level _ => .defined level 0))) ∧
          t.filterBase = (if f = s.device.filterClock then s.filterBase else t.clock) ∧
          t.store = s.store ∧ t.writer = s.writer ∧ t.masks = s.masks ∧ t.pins = s.pins
      | _, _ => t = { s with clock := s.clock + dt, link := s.replied dt 0x1C#8 (answer .badValue) }

/-! ## Panel -/

/-- A panel frame starts 2.4 ms after the last and takes the lamp values of its moment, six bits for each station (R182, R183): feeder running, MOVING, then relief, FAULTED,
CALIBRATING and the wear-capped condition in the NORMAL set, or the station's pending sources, FAULTED, any pending source and the lost level in the ATTENTION
set, pending meaning raised and not masked; those of an absent station are 0. Each later bit begins 100 µs after the one before it, and changes
nothing else.
The model's own: the moment taken, logs 2 and 24 of the assumption log. -/
def Obligations.PanelStreamsFrames : Prop :=
  (∀ s : State, s.phase = .running → s.panel.startedAt ≤ s.clock →
    Takes .panelFrame s fun t =>
      let due := if s.panel.index = none then s.panel.startedAt else s.panel.startedAt + 96000
      max s.clock due ≤ t.clock ∧ t.clock < max s.clock due + 96000 ∧ 96000 ∣ t.clock - s.panel.startedAt ∧
      t = { s with clock := t.clock, panel := { bits := s.frameBits, index := some 0, startedAt := t.clock } } ∧
      t.panel.bits.length = 24 ∧ t.panel.frameLine = true ∧
      ∀ i : StationId,
        let st := s.st i
        let pending := fun n => s.raised.getLsbD n && !s.masks.getLsbD n
        (t.panel.bits.drop (6 * i.val)).take 6 =
          if s.present i = false then [false, false, false, false, false, false]
          else match s.device.panelSet with
            | .normal =>
              [decide (0 < st.feed.output), decide (st.gap.state = .moving),
                decide (st.gap.state = .relieved ∨ st.gap.state = .restoring), decide (st.gap.state = .faulted),
                decide (st.gap.state = .calibrating), decide (st.gap.w = st.record.limits.wMax)]
            | .attention =>
              [decide (0 < st.feed.output), decide (st.gap.state = .moving),
                decide (∃ k : Fin 8, pending (8 * i.val + k.val) = true), decide (st.gap.state = .faulted),
                decide (∃ k : Fin 36, pending k.val = true), st.level.lost]) ∧
  ∀ (s : State) (k : Nat), s.phase = .running → s.panel.index = some k → k < 23 →
    Takes .panelBit s fun t =>
      t.clock = max s.clock (s.panel.startedAt + 4000 * (k + 1)) ∧
      t = { s with clock := t.clock, panel := { s.panel with index := some (k + 1) } } ∧
      t.panel.frameLine = false ∧ t.panel.data = s.panel.bits.getD (k + 1) false

/-! ## Link -/

/-- A frame discarded in RECEIVE is counted, up to 65,535, and the receiver enters RESYNC, whatever broke it, a gap of more than 2 ms included (R168, R169, R171); a frame begun during the reply is
counted and the reply goes on (R174); a frame for another device is not counted (R170); 2 ms of silence end RESYNC (R167). No block is touched.
The model's own: the moment taken, the rows that stand for frames, and the silence after a gap, logs 2, 7 and 38 of the assumption log. -/
def Obligations.LinkDiscardsFrames : Prop :=
  (∀ (s : State) (dt : Ticks) (why : DiscardReason), s.phase = .running → s.link.rx = .receive →
    Takes (.frameDiscard dt why) s (fun t =>
      t = { s with
        clock := s.clock + dt
        link := { s.link with
          rx := .resync, frame := [], lastChar := s.clock + dt, errors := min 65535 (s.link.errors + 1) } }) ∧
    Takes .interCharacterTimeout s (fun t =>
      s.link.lastChar + 80000 < t.clock ∧
      t = { s with
        clock := t.clock
        link := { s.link with
          rx := .resync, frame := [], lastChar := t.clock, errors := min 65535 (s.link.errors + 1) } }) ∧
    Takes (.frameForOtherDevice dt) s fun t =>
      t = { s with clock := s.clock + dt, link := { s.link with rx := .listen, frame := [] } }) ∧
  (∀ s : State, s.phase = .running → s.link.rx = .resync →
    Takes .resyncSilence s fun t =>
      s.link.lastChar + 80000 ≤ t.clock ∧
      t = { s with clock := t.clock, link := { s.link with rx := .listen, frame := [] } }) ∧
  ∀ (s : State) (dt : Ticks), s.phase = .running → s.link.rx = .reply →
    Takes (.frameBegunDuringReply dt) s fun t =>
      t = { s with
        clock := s.clock + dt
        link := { s.link with intruder := some (s.clock + dt), errors := min 65535 (s.link.errors + 1) } }

/-- A kind that names no request is answered UNKNOWN_KIND with the kind as received (R172, R192). The reply begins 0.5 ms to 10 ms after the taking, drives the line for ten bits a character, a start
bit, the eight data bits, least significant first, and a stop bit, and ends with the driver released and the receiver in RESYNC; the released driver sends
no bit (R166, R173).
The model's own: the bounded times and the tick grid, logs 22 and 32 of the assumption log. -/
def Obligations.RepliesGoOut : Prop :=
  (∀ (s : State) (dt : Ticks) (kind : Byte), s.Hearing → kindUnassigned kind = true →
    Takes (.unknownKind dt kind) s fun t =>
      t = { s with clock := s.clock + dt, link := s.replied dt kind (answer .unknownKind) }) ∧
  (∀ (s : State) (wait : Ticks), s.phase = .running → s.link.rx = .reply → s.link.driving = none →
    s.clock ≤ s.link.takenAt + 20000 →
    Takes (.replyStart wait) s fun t =>
      s.link.takenAt + 20000 ≤ t.clock ∧ t.clock ≤ s.link.takenAt + 400000 ∧ t.link.driver = true ∧
      t = { s with clock := t.clock, link := { s.link with driving := some t.clock } }) ∧
  (∀ (s : State) (since : Ticks), s.phase = .running → s.link.driving = some since →
    Takes .replyComplete s fun t =>
      since * s.link.bitRate + s.link.reply.length * 400000000 ≤ t.clock * s.link.bitRate ∧
      t = { s with
        clock := t.clock
        link := { s.link with
          rx := .resync, frame := [], lastChar := t.clock, reply := [], driving := none, intruder := none } }) ∧
  ∀ (l : Link) (now : Ticks),
    match l.driving with
    | none => l.lineBit now = none
    | some since =>
      let k := (now - since) * (if l.fast then 115200 else 57600) / 40000000
      l.lineBit now = l.reply[k / 10]?.map fun c =>
        if k % 10 = 0 then .start else if k % 10 = 9 then .stop else .data (c.getLsbD (k % 10 - 1))

/-- A5h in LISTEN starts a frame with the running CRC at FFFFh, and any other character there is disregarded (R167). In RECEIVE each character up to the end of
the payload joins the frame and enters the running CRC, most significant bit first with 1021h, and the first CRC byte joins it alone (R167, R169). A
character without its stop bit, one after a gap of more than 2 ms, and a length above 200 discard the frame, which is counted (R168, R171). The last
CRC byte of a sound frame to the device's own address takes the request of its kind and payload, and its answer is the reply; a broadcast HALT or SET
FEED acts without a reply, at a device whose address is 0 as well; every other sound frame is disregarded, and one whose CRC differs is discarded and
counted (R166, R169 to R173).
The model's own: KEY as an operand, log 23, and the silence after a gap, log 38 of the assumption log. -/
def Obligations.CharactersFormFrames : Prop :=
  let quick := fun (s : State) (dt : Ticks) =>
    s.link.lastChar ≤ s.clock ∧
      (dt + (s.clock - s.link.lastChar)) * s.link.bitRate ≤ (80000 * s.link.bitRate + 400000000 : Nat)
  let seen := fun (s : State) (dt : Ticks) (key : Bool) (link : Link) =>
    { s with clock := s.clock + dt, pins := { s.pins with key := key }, link := link }
  let discarded := fun (s : State) (dt : Ticks) =>
    { s.link with
      rx := .resync, frame := [], lastChar := s.clock + dt, errors := min 65535 (s.link.errors + 1) }
  let crcOf := fun (crc : BitVec 16) (c : Byte) =>
    (List.range 8).foldl (fun (x : BitVec 16) k =>
      if x.getLsbD 15 != c.getLsbD (7 - k) then (x <<< 1) ^^^ 0x1021#16 else x <<< 1) crc
  (∀ (s : State) (dt : Ticks) (c : Byte) (key : Bool), s.phase = .running → s.link.rx = .listen →
    Takes (.characterReceived dt c true key) s fun t =>
      t = seen s dt key (if c = 0xA5#8 then
          { s.link with rx := .receive, frame := [], crc := 0xFFFF#16, lastChar := s.clock + dt }
        else { s.link with lastChar := s.clock + dt })) ∧
  (∀ (s : State) (dt : Ticks) (c : Byte) (key : Bool), s.phase = .running → s.link.rx = .receive → quick s dt →
    Takes (.characterReceived dt c false key) s (fun t => t = seen s dt key (discarded s dt)) ∧
    Takes (.characterReceived dt c true key) s fun t =>
      let joined := { s.link with frame := s.link.frame ++ [c], lastChar := s.clock + dt }
      let covered := { joined with crc := crcOf s.link.crc c }
      (s.link.frame.length < 2 → t = seen s dt key covered) ∧
      (s.link.frame.length = 2 → t = seen s dt key (if 200 < c.toNat then discarded s dt else covered)) ∧
      ∀ n, s.link.frame[2]? = some n → n.toNat ≤ 200 →
        (s.link.frame.length < 3 + n.toNat → t = seen s dt key covered) ∧
        (s.link.frame.length = 3 + n.toNat → t = seen s dt key joined)) ∧
  (∀ (s : State) (dt : Ticks) (c : Byte) (stopBit key : Bool), s.phase = .running → s.link.rx = .receive →
    s.link.lastChar ≤ s.clock → ¬ quick s dt →
    (dt + (s.clock - s.link.lastChar)) * s.link.bitRate ≤ 160000 * s.link.bitRate + 400000000 →
    Takes (.characterReceived dt c stopBit key) s fun t => t = seen s dt key (discarded s dt)) ∧
  ∀ (s : State) (dt : Ticks) (addr kind last : Byte) (payload : List Byte) (key : Bool), s.phase = .running →
    s.link.rx = .receive → payload.length ≤ 200 →
    s.link.frame = [addr, kind, BitVec.ofNat 8 payload.length] ++ payload ++ [BitVec.ofNat 8 (s.link.crc.toNat / 256)] →
    quick s dt →
    Takes (.characterReceived dt last true key) s fun t =>
      let heard := seen s dt key { s.link with rx := .listen, frame := [], lastChar := s.clock + dt }
      if last.toNat ≠ s.link.crc.toNat % 256 then t = seen s dt key (discarded s dt)
      else if addr.toNat = s.link.addr ∧ s.link.addr ≠ 0 then
        t = (request kind payload heard).1.reply kind (request kind payload heard).2
      else if addr = 0x00#8 ∧ (kind = 0x09#8 ∨ kind = 0x11#8) then t = (request kind payload heard).1
      else t = heard

/-! ## Laws of the device, kept by every step -/

/-- At reset every law of the device holds (R27, R41, R63, R95, R119, R149).
The model's own: the blank store and the RAM before start-up, logs 4 and 30 of the assumption log. -/
def Obligations.ResetHoldsLaws : Prop :=
  State.reset.WearLaw ∧ State.reset.FeedLaw ∧ State.reset.ReasonLaw ∧ State.reset.BoundLaw ∧ State.reset.QueueLaw ∧
    State.reset.ValveLaw

/-- Every step keeps the wear law (R27): the held W always agrees with its formula, and so lies within [0, Wmax]. -/
def Obligations.StepKeepsWearLaw : Prop :=
  ∀ s t : State, s.WearLaw → step s = .next t →
    t.WearLaw ∧ ∀ i, (t.st i).gap.w ≤ (t.st i).record.limits.wMax

/-- Every step keeps the output law (R119): a station's feeder output rate is 0 whenever its feed mode is STOP or its stop set is non-empty, and otherwise lies within [rate_min, rate_max]. -/
def Obligations.StepKeepsFeedLaw : Prop :=
  ∀ s t : State, s.FeedLaw → step s = .next t → t.FeedLaw

/-- Every step keeps the reason law (R62, R95, R120): TRAMP stands exactly while the station is RELIEVED or RESTORING, and the other reasons of the gap channel and the service modes stand
exactly while their table says so. -/
def Obligations.StepKeepsReasonLaw : Prop :=
  ∀ s t : State, s.ReasonLaw → step s = .next t → t.ReasonLaw

/-- Every step keeps the bounds: at most 4 setting entries (R41), 8 tramp onsets (R86) and 16 lot records (R149), and wear histories of at most 8 entries with
consecutive numbers (R114). -/
def Obligations.StepKeepsBounds : Prop :=
  ∀ s t : State, s.BoundLaw → step s = .next t → t.BoundLaw

/-- Every step from a state of the valve law keeps the queue law (R39, R41): a present station's setting queue is empty whenever it is IDLE, UNREFERENCED, ISOLATED or FAULTED; UNREFERENCED has
no valid zero reference, and IDLE has one. -/
def Obligations.StepKeepsQueueLaw : Prop :=
  ∀ s t : State, s.ValveLaw → s.QueueLaw → step s = .next t →
    t.QueueLaw ∧ ∀ i, t.Serving i →
      ((t.st i).gap.state = .idle ∨ (t.st i).gap.state = .unreferenced ∨ (t.st i).gap.state = .isolated ∨
        (t.st i).gap.state = .faulted) → (t.st i).gap.queue = []

/-- Every step keeps the valve law (R63, R45, R96): OPEN and CLOSE are never active together, and a valve output is active only in PULSE with dry run off; a move and a context are present exactly in
the states that hold them. -/
def Obligations.StepKeepsValveLaw : Prop :=
  ∀ s t : State, s.ValveLaw → step s = .next t →
    t.ValveLaw ∧ ∀ i, ((t.st i).gap.openOut && (t.st i).gap.closeOut) = false
end

