-- ==== Sys2Proof/Laws/State.lean ====
section
/-!
SUPPORT. The small lemmas of State: one per field and update, true by unfolding, so that no later proof unfolds a record update; the station
containers; and what the accessors see after an update.
-/

namespace Sys2Proof

/-! ## Containers of four stations -/

@[simp] theorem Quad.get_set_self {α : Type} (q : Quad α) (i : StationId) (a : α) : (q.set i a).get i = a := by
  match i with
  | 0 => rfl
  | 1 => rfl
  | 2 => rfl
  | 3 => rfl

theorem Quad.get_set_ne {α : Type} (q : Quad α) {i j : StationId} (a : α) (h : j ≠ i) : (q.set i a).get j = q.get j := by
  match i, j, h with
  | 0, 0, h => exact absurd rfl h
  | 1, 1, h => exact absurd rfl h
  | 2, 2, h => exact absurd rfl h
  | 3, 3, h => exact absurd rfl h
  | 0, 1, _ => rfl
  | 0, 2, _ => rfl
  | 0, 3, _ => rfl
  | 1, 0, _ => rfl
  | 1, 2, _ => rfl
  | 1, 3, _ => rfl
  | 2, 0, _ => rfl
  | 2, 1, _ => rfl
  | 2, 3, _ => rfl
  | 3, 0, _ => rfl
  | 3, 1, _ => rfl
  | 3, 2, _ => rfl

@[simp] theorem Quad.get_all {α : Type} (a : α) (i : StationId) : (Quad.all a).get i = a := by
  match i with
  | 0 => rfl
  | 1 => rfl
  | 2 => rfl
  | 3 => rfl

@[simp] theorem Quad.get_map {α β : Type} (f : α → β) (q : Quad α) (i : StationId) : (q.map f).get i = f (q.get i) := by
  match i with
  | 0 => rfl
  | 1 => rfl
  | 2 => rfl
  | 3 => rfl

/-- Two containers with the same value at every station are the same. -/
theorem Quad.ext_get {α : Type} {p q : Quad α} (h : ∀ i, p.get i = q.get i) : p = q := by
  cases p with
  | mk p0 p1 p2 p3 =>
    cases q with
    | mk q0 q1 q2 q3 =>
      have h0 : p0 = q0 := h 0
      have h1 : p1 = q1 := h 1
      have h2 : p2 = q2 := h 2
      have h3 : p3 = q3 := h 3
      subst h0 h1 h2 h3
      rfl

namespace Machine

/-! ## What a station's state is after an update -/

@[simp] theorem State.st_modSt_self (s : State) (i : StationId) (f : Station → Station) : (s.modSt i f).st i = f (s.st i) :=
  Quad.get_set_self _ _ _

theorem State.st_modSt_ne (s : State) {i j : StationId} (f : Station → Station) (h : j ≠ i) :
    (s.modSt i f).st j = s.st j :=
  Quad.get_set_ne _ _ h

/-- A station after an update of one station. -/
theorem State.st_modSt (s : State) (i j : StationId) (f : Station → Station) :
    (s.modSt i f).st j = if j = i then f (s.st j) else s.st j := by
  by_cases h : j = i
  · subst h
    simp
  · simp [h, State.st_modSt_ne s f h]

/-! ## An update of one station -/

@[simp] theorem State.pending_modSt (s : State) (i : StationId) (f : Station → Station) : (s.modSt i f).pending = s.pending := rfl
@[simp] theorem State.clock_modSt (s : State) (i : StationId) (f : Station → Station) : (s.modSt i f).clock = s.clock := rfl
@[simp] theorem State.epoch_modSt (s : State) (i : StationId) (f : Station → Station) : (s.modSt i f).epoch = s.epoch := rfl
@[simp] theorem State.freeCount_modSt (s : State) (i : StationId) (f : Station → Station) : (s.modSt i f).freeCount = s.freeCount := rfl
@[simp] theorem State.phase_modSt (s : State) (i : StationId) (f : Station → Station) : (s.modSt i f).phase = s.phase := rfl
@[simp] theorem State.pins_modSt (s : State) (i : StationId) (f : Station → Station) : (s.modSt i f).pins = s.pins := rfl
@[simp] theorem State.device_modSt (s : State) (i : StationId) (f : Station → Station) : (s.modSt i f).device = s.device := rfl
@[simp] theorem State.filterBase_modSt (s : State) (i : StationId) (f : Station → Station) : (s.modSt i f).filterBase = s.filterBase := rfl
@[simp] theorem State.filterLast_modSt (s : State) (i : StationId) (f : Station → Station) : (s.modSt i f).filterLast = s.filterLast := rfl
@[simp] theorem State.lotQueue_modSt (s : State) (i : StationId) (f : Station → Station) : (s.modSt i f).lotQueue = s.lotQueue := rfl
@[simp] theorem State.raised_modSt (s : State) (i : StationId) (f : Station → Station) : (s.modSt i f).raised = s.raised := rfl
@[simp] theorem State.masks_modSt (s : State) (i : StationId) (f : Station → Station) : (s.modSt i f).masks = s.masks := rfl
@[simp] theorem State.link_modSt (s : State) (i : StationId) (f : Station → Station) : (s.modSt i f).link = s.link := rfl
@[simp] theorem State.panel_modSt (s : State) (i : StationId) (f : Station → Station) : (s.modSt i f).panel = s.panel := rfl
@[simp] theorem State.store_modSt (s : State) (i : StationId) (f : Station → Station) : (s.modSt i f).store = s.store := rfl
@[simp] theorem State.writer_modSt (s : State) (i : StationId) (f : Station → Station) : (s.modSt i f).writer = s.writer := rfl
@[simp] theorem State.storeSeq_modSt (s : State) (i : StationId) (f : Station → Station) : (s.modSt i f).storeSeq = s.storeSeq := rfl
@[simp] theorem State.inSequence_modSt (s : State) (i : StationId) (f : Station → Station) : (s.modSt i f).inSequence = s.inSequence := rfl
@[simp] theorem State.pendingWrites_modSt (s : State) (i : StationId) (f : Station → Station) : (s.modSt i f).pendingWrites = s.pendingWrites := rfl

/-! ## Time passes -/

@[simp] theorem State.pending_elapse (s : State) (dt : Ticks) : (s.elapse dt).pending = s.pending := rfl
@[simp] theorem State.epoch_elapse (s : State) (dt : Ticks) : (s.elapse dt).epoch = s.epoch := rfl
@[simp] theorem State.freeCount_elapse (s : State) (dt : Ticks) : (s.elapse dt).freeCount = s.freeCount := rfl
@[simp] theorem State.phase_elapse (s : State) (dt : Ticks) : (s.elapse dt).phase = s.phase := rfl
@[simp] theorem State.pins_elapse (s : State) (dt : Ticks) : (s.elapse dt).pins = s.pins := rfl
@[simp] theorem State.device_elapse (s : State) (dt : Ticks) : (s.elapse dt).device = s.device := rfl
@[simp] theorem State.filterBase_elapse (s : State) (dt : Ticks) : (s.elapse dt).filterBase = s.filterBase := rfl
@[simp] theorem State.filterLast_elapse (s : State) (dt : Ticks) : (s.elapse dt).filterLast = s.filterLast := rfl
@[simp] theorem State.stations_elapse (s : State) (dt : Ticks) : (s.elapse dt).stations = s.stations := rfl
@[simp] theorem State.lotQueue_elapse (s : State) (dt : Ticks) : (s.elapse dt).lotQueue = s.lotQueue := rfl
@[simp] theorem State.raised_elapse (s : State) (dt : Ticks) : (s.elapse dt).raised = s.raised := rfl
@[simp] theorem State.masks_elapse (s : State) (dt : Ticks) : (s.elapse dt).masks = s.masks := rfl
@[simp] theorem State.link_elapse (s : State) (dt : Ticks) : (s.elapse dt).link = s.link := rfl
@[simp] theorem State.panel_elapse (s : State) (dt : Ticks) : (s.elapse dt).panel = s.panel := rfl
@[simp] theorem State.store_elapse (s : State) (dt : Ticks) : (s.elapse dt).store = s.store := rfl
@[simp] theorem State.writer_elapse (s : State) (dt : Ticks) : (s.elapse dt).writer = s.writer := rfl
@[simp] theorem State.storeSeq_elapse (s : State) (dt : Ticks) : (s.elapse dt).storeSeq = s.storeSeq := rfl
@[simp] theorem State.inSequence_elapse (s : State) (dt : Ticks) : (s.elapse dt).inSequence = s.inSequence := rfl
@[simp] theorem State.pendingWrites_elapse (s : State) (dt : Ticks) : (s.elapse dt).pendingWrites = s.pendingWrites := rfl

/-! ## Time passes to a moment -/

@[simp] theorem State.pending_reach (s : State) (t : Ticks) : (s.reach t).pending = s.pending := rfl
@[simp] theorem State.epoch_reach (s : State) (t : Ticks) : (s.reach t).epoch = s.epoch := rfl
@[simp] theorem State.freeCount_reach (s : State) (t : Ticks) : (s.reach t).freeCount = s.freeCount := rfl
@[simp] theorem State.phase_reach (s : State) (t : Ticks) : (s.reach t).phase = s.phase := rfl
@[simp] theorem State.pins_reach (s : State) (t : Ticks) : (s.reach t).pins = s.pins := rfl
@[simp] theorem State.device_reach (s : State) (t : Ticks) : (s.reach t).device = s.device := rfl
@[simp] theorem State.filterBase_reach (s : State) (t : Ticks) : (s.reach t).filterBase = s.filterBase := rfl
@[simp] theorem State.filterLast_reach (s : State) (t : Ticks) : (s.reach t).filterLast = s.filterLast := rfl
@[simp] theorem State.stations_reach (s : State) (t : Ticks) : (s.reach t).stations = s.stations := rfl
@[simp] theorem State.lotQueue_reach (s : State) (t : Ticks) : (s.reach t).lotQueue = s.lotQueue := rfl
@[simp] theorem State.raised_reach (s : State) (t : Ticks) : (s.reach t).raised = s.raised := rfl
@[simp] theorem State.masks_reach (s : State) (t : Ticks) : (s.reach t).masks = s.masks := rfl
@[simp] theorem State.link_reach (s : State) (t : Ticks) : (s.reach t).link = s.link := rfl
@[simp] theorem State.panel_reach (s : State) (t : Ticks) : (s.reach t).panel = s.panel := rfl
@[simp] theorem State.store_reach (s : State) (t : Ticks) : (s.reach t).store = s.store := rfl
@[simp] theorem State.writer_reach (s : State) (t : Ticks) : (s.reach t).writer = s.writer := rfl
@[simp] theorem State.storeSeq_reach (s : State) (t : Ticks) : (s.reach t).storeSeq = s.storeSeq := rfl
@[simp] theorem State.inSequence_reach (s : State) (t : Ticks) : (s.reach t).inSequence = s.inSequence := rfl
@[simp] theorem State.pendingWrites_reach (s : State) (t : Ticks) : (s.reach t).pendingWrites = s.pendingWrites := rfl

/-! ## A source is raised -/

@[simp] theorem State.pending_raiseNumber (s : State) (n : Nat) : (s.raiseNumber n).pending = s.pending := rfl
@[simp] theorem State.clock_raiseNumber (s : State) (n : Nat) : (s.raiseNumber n).clock = s.clock := rfl
@[simp] theorem State.epoch_raiseNumber (s : State) (n : Nat) : (s.raiseNumber n).epoch = s.epoch := rfl
@[simp] theorem State.freeCount_raiseNumber (s : State) (n : Nat) : (s.raiseNumber n).freeCount = s.freeCount := rfl
@[simp] theorem State.phase_raiseNumber (s : State) (n : Nat) : (s.raiseNumber n).phase = s.phase := rfl
@[simp] theorem State.pins_raiseNumber (s : State) (n : Nat) : (s.raiseNumber n).pins = s.pins := rfl
@[simp] theorem State.device_raiseNumber (s : State) (n : Nat) : (s.raiseNumber n).device = s.device := rfl
@[simp] theorem State.filterBase_raiseNumber (s : State) (n : Nat) : (s.raiseNumber n).filterBase = s.filterBase := rfl
@[simp] theorem State.filterLast_raiseNumber (s : State) (n : Nat) : (s.raiseNumber n).filterLast = s.filterLast := rfl
@[simp] theorem State.stations_raiseNumber (s : State) (n : Nat) : (s.raiseNumber n).stations = s.stations := rfl
@[simp] theorem State.lotQueue_raiseNumber (s : State) (n : Nat) : (s.raiseNumber n).lotQueue = s.lotQueue := rfl
@[simp] theorem State.masks_raiseNumber (s : State) (n : Nat) : (s.raiseNumber n).masks = s.masks := rfl
@[simp] theorem State.link_raiseNumber (s : State) (n : Nat) : (s.raiseNumber n).link = s.link := rfl
@[simp] theorem State.panel_raiseNumber (s : State) (n : Nat) : (s.raiseNumber n).panel = s.panel := rfl
@[simp] theorem State.store_raiseNumber (s : State) (n : Nat) : (s.raiseNumber n).store = s.store := rfl
@[simp] theorem State.writer_raiseNumber (s : State) (n : Nat) : (s.raiseNumber n).writer = s.writer := rfl
@[simp] theorem State.storeSeq_raiseNumber (s : State) (n : Nat) : (s.raiseNumber n).storeSeq = s.storeSeq := rfl
@[simp] theorem State.inSequence_raiseNumber (s : State) (n : Nat) : (s.raiseNumber n).inSequence = s.inSequence := rfl
@[simp] theorem State.pendingWrites_raiseNumber (s : State) (n : Nat) : (s.raiseNumber n).pendingWrites = s.pendingWrites := rfl

/-! ## A reply is formed -/

@[simp] theorem State.pending_reply (s : State) (kind : Byte) (a : Answer) : (s.reply kind a).pending = s.pending := rfl
@[simp] theorem State.clock_reply (s : State) (kind : Byte) (a : Answer) : (s.reply kind a).clock = s.clock := rfl
@[simp] theorem State.epoch_reply (s : State) (kind : Byte) (a : Answer) : (s.reply kind a).epoch = s.epoch := rfl
@[simp] theorem State.freeCount_reply (s : State) (kind : Byte) (a : Answer) : (s.reply kind a).freeCount = s.freeCount := rfl
@[simp] theorem State.phase_reply (s : State) (kind : Byte) (a : Answer) : (s.reply kind a).phase = s.phase := rfl
@[simp] theorem State.pins_reply (s : State) (kind : Byte) (a : Answer) : (s.reply kind a).pins = s.pins := rfl
@[simp] theorem State.device_reply (s : State) (kind : Byte) (a : Answer) : (s.reply kind a).device = s.device := rfl
@[simp] theorem State.filterBase_reply (s : State) (kind : Byte) (a : Answer) : (s.reply kind a).filterBase = s.filterBase := rfl
@[simp] theorem State.filterLast_reply (s : State) (kind : Byte) (a : Answer) : (s.reply kind a).filterLast = s.filterLast := rfl
@[simp] theorem State.stations_reply (s : State) (kind : Byte) (a : Answer) : (s.reply kind a).stations = s.stations := rfl
@[simp] theorem State.lotQueue_reply (s : State) (kind : Byte) (a : Answer) : (s.reply kind a).lotQueue = s.lotQueue := rfl
@[simp] theorem State.raised_reply (s : State) (kind : Byte) (a : Answer) : (s.reply kind a).raised = s.raised := rfl
@[simp] theorem State.masks_reply (s : State) (kind : Byte) (a : Answer) : (s.reply kind a).masks = s.masks := rfl
@[simp] theorem State.panel_reply (s : State) (kind : Byte) (a : Answer) : (s.reply kind a).panel = s.panel := rfl
@[simp] theorem State.store_reply (s : State) (kind : Byte) (a : Answer) : (s.reply kind a).store = s.store := rfl
@[simp] theorem State.writer_reply (s : State) (kind : Byte) (a : Answer) : (s.reply kind a).writer = s.writer := rfl
@[simp] theorem State.storeSeq_reply (s : State) (kind : Byte) (a : Answer) : (s.reply kind a).storeSeq = s.storeSeq := rfl
@[simp] theorem State.inSequence_reply (s : State) (kind : Byte) (a : Answer) : (s.reply kind a).inSequence = s.inSequence := rfl
@[simp] theorem State.pendingWrites_reply (s : State) (kind : Byte) (a : Answer) : (s.reply kind a).pendingWrites = s.pendingWrites := rfl

/-! ## The receiver listens -/

@[simp] theorem State.pending_listen (s : State) : (s.listen).pending = s.pending := rfl
@[simp] theorem State.clock_listen (s : State) : (s.listen).clock = s.clock := rfl
@[simp] theorem State.epoch_listen (s : State) : (s.listen).epoch = s.epoch := rfl
@[simp] theorem State.freeCount_listen (s : State) : (s.listen).freeCount = s.freeCount := rfl
@[simp] theorem State.phase_listen (s : State) : (s.listen).phase = s.phase := rfl
@[simp] theorem State.pins_listen (s : State) : (s.listen).pins = s.pins := rfl
@[simp] theorem State.device_listen (s : State) : (s.listen).device = s.device := rfl
@[simp] theorem State.filterBase_listen (s : State) : (s.listen).filterBase = s.filterBase := rfl
@[simp] theorem State.filterLast_listen (s : State) : (s.listen).filterLast = s.filterLast := rfl
@[simp] theorem State.stations_listen (s : State) : (s.listen).stations = s.stations := rfl
@[simp] theorem State.lotQueue_listen (s : State) : (s.listen).lotQueue = s.lotQueue := rfl
@[simp] theorem State.raised_listen (s : State) : (s.listen).raised = s.raised := rfl
@[simp] theorem State.masks_listen (s : State) : (s.listen).masks = s.masks := rfl
@[simp] theorem State.panel_listen (s : State) : (s.listen).panel = s.panel := rfl
@[simp] theorem State.store_listen (s : State) : (s.listen).store = s.store := rfl
@[simp] theorem State.writer_listen (s : State) : (s.listen).writer = s.writer := rfl
@[simp] theorem State.storeSeq_listen (s : State) : (s.listen).storeSeq = s.storeSeq := rfl
@[simp] theorem State.inSequence_listen (s : State) : (s.listen).inSequence = s.inSequence := rfl
@[simp] theorem State.pendingWrites_listen (s : State) : (s.listen).pendingWrites = s.pendingWrites := rfl

/-! ## KEY is read -/

@[simp] theorem State.pending_setKey (s : State) (k : Bool) : (s.setKey k).pending = s.pending := rfl
@[simp] theorem State.clock_setKey (s : State) (k : Bool) : (s.setKey k).clock = s.clock := rfl
@[simp] theorem State.epoch_setKey (s : State) (k : Bool) : (s.setKey k).epoch = s.epoch := rfl
@[simp] theorem State.freeCount_setKey (s : State) (k : Bool) : (s.setKey k).freeCount = s.freeCount := rfl
@[simp] theorem State.phase_setKey (s : State) (k : Bool) : (s.setKey k).phase = s.phase := rfl
@[simp] theorem State.device_setKey (s : State) (k : Bool) : (s.setKey k).device = s.device := rfl
@[simp] theorem State.filterBase_setKey (s : State) (k : Bool) : (s.setKey k).filterBase = s.filterBase := rfl
@[simp] theorem State.filterLast_setKey (s : State) (k : Bool) : (s.setKey k).filterLast = s.filterLast := rfl
@[simp] theorem State.stations_setKey (s : State) (k : Bool) : (s.setKey k).stations = s.stations := rfl
@[simp] theorem State.lotQueue_setKey (s : State) (k : Bool) : (s.setKey k).lotQueue = s.lotQueue := rfl
@[simp] theorem State.raised_setKey (s : State) (k : Bool) : (s.setKey k).raised = s.raised := rfl
@[simp] theorem State.masks_setKey (s : State) (k : Bool) : (s.setKey k).masks = s.masks := rfl
@[simp] theorem State.link_setKey (s : State) (k : Bool) : (s.setKey k).link = s.link := rfl
@[simp] theorem State.panel_setKey (s : State) (k : Bool) : (s.setKey k).panel = s.panel := rfl
@[simp] theorem State.store_setKey (s : State) (k : Bool) : (s.setKey k).store = s.store := rfl
@[simp] theorem State.writer_setKey (s : State) (k : Bool) : (s.setKey k).writer = s.writer := rfl
@[simp] theorem State.storeSeq_setKey (s : State) (k : Bool) : (s.setKey k).storeSeq = s.storeSeq := rfl
@[simp] theorem State.inSequence_setKey (s : State) (k : Bool) : (s.setKey k).inSequence = s.inSequence := rfl
@[simp] theorem State.pendingWrites_setKey (s : State) (k : Bool) : (s.setKey k).pendingWrites = s.pendingWrites := rfl

/-! ## The receiver resynchronises -/

@[simp] theorem State.pending_resyncFrom (s : State) (t : Ticks) : (s.resyncFrom t).pending = s.pending := rfl
@[simp] theorem State.clock_resyncFrom (s : State) (t : Ticks) : (s.resyncFrom t).clock = s.clock := rfl
@[simp] theorem State.epoch_resyncFrom (s : State) (t : Ticks) : (s.resyncFrom t).epoch = s.epoch := rfl
@[simp] theorem State.freeCount_resyncFrom (s : State) (t : Ticks) : (s.resyncFrom t).freeCount = s.freeCount := rfl
@[simp] theorem State.phase_resyncFrom (s : State) (t : Ticks) : (s.resyncFrom t).phase = s.phase := rfl
@[simp] theorem State.pins_resyncFrom (s : State) (t : Ticks) : (s.resyncFrom t).pins = s.pins := rfl
@[simp] theorem State.device_resyncFrom (s : State) (t : Ticks) : (s.resyncFrom t).device = s.device := rfl
@[simp] theorem State.filterBase_resyncFrom (s : State) (t : Ticks) : (s.resyncFrom t).filterBase = s.filterBase := rfl
@[simp] theorem State.filterLast_resyncFrom (s : State) (t : Ticks) : (s.resyncFrom t).filterLast = s.filterLast := rfl
@[simp] theorem State.stations_resyncFrom (s : State) (t : Ticks) : (s.resyncFrom t).stations = s.stations := rfl
@[simp] theorem State.lotQueue_resyncFrom (s : State) (t : Ticks) : (s.resyncFrom t).lotQueue = s.lotQueue := rfl
@[simp] theorem State.raised_resyncFrom (s : State) (t : Ticks) : (s.resyncFrom t).raised = s.raised := rfl
@[simp] theorem State.masks_resyncFrom (s : State) (t : Ticks) : (s.resyncFrom t).masks = s.masks := rfl
@[simp] theorem State.panel_resyncFrom (s : State) (t : Ticks) : (s.resyncFrom t).panel = s.panel := rfl
@[simp] theorem State.store_resyncFrom (s : State) (t : Ticks) : (s.resyncFrom t).store = s.store := rfl
@[simp] theorem State.writer_resyncFrom (s : State) (t : Ticks) : (s.resyncFrom t).writer = s.writer := rfl
@[simp] theorem State.storeSeq_resyncFrom (s : State) (t : Ticks) : (s.resyncFrom t).storeSeq = s.storeSeq := rfl
@[simp] theorem State.inSequence_resyncFrom (s : State) (t : Ticks) : (s.resyncFrom t).inSequence = s.inSequence := rfl
@[simp] theorem State.pendingWrites_resyncFrom (s : State) (t : Ticks) : (s.resyncFrom t).pendingWrites = s.pendingWrites := rfl

/-! ## An error is counted -/

@[simp] theorem State.pending_countError (s : State) : (s.countError).pending = s.pending := rfl
@[simp] theorem State.clock_countError (s : State) : (s.countError).clock = s.clock := rfl
@[simp] theorem State.epoch_countError (s : State) : (s.countError).epoch = s.epoch := rfl
@[simp] theorem State.freeCount_countError (s : State) : (s.countError).freeCount = s.freeCount := rfl
@[simp] theorem State.phase_countError (s : State) : (s.countError).phase = s.phase := rfl
@[simp] theorem State.pins_countError (s : State) : (s.countError).pins = s.pins := rfl
@[simp] theorem State.device_countError (s : State) : (s.countError).device = s.device := rfl
@[simp] theorem State.filterBase_countError (s : State) : (s.countError).filterBase = s.filterBase := rfl
@[simp] theorem State.filterLast_countError (s : State) : (s.countError).filterLast = s.filterLast := rfl
@[simp] theorem State.stations_countError (s : State) : (s.countError).stations = s.stations := rfl
@[simp] theorem State.lotQueue_countError (s : State) : (s.countError).lotQueue = s.lotQueue := rfl
@[simp] theorem State.raised_countError (s : State) : (s.countError).raised = s.raised := rfl
@[simp] theorem State.masks_countError (s : State) : (s.countError).masks = s.masks := rfl
@[simp] theorem State.panel_countError (s : State) : (s.countError).panel = s.panel := rfl
@[simp] theorem State.store_countError (s : State) : (s.countError).store = s.store := rfl
@[simp] theorem State.writer_countError (s : State) : (s.countError).writer = s.writer := rfl
@[simp] theorem State.storeSeq_countError (s : State) : (s.countError).storeSeq = s.storeSeq := rfl
@[simp] theorem State.inSequence_countError (s : State) : (s.countError).inSequence = s.inSequence := rfl
@[simp] theorem State.pendingWrites_countError (s : State) : (s.countError).pendingWrites = s.pendingWrites := rfl

@[simp] theorem State.st_elapse (s : State) (dt : Ticks) (j : StationId) : (s.elapse dt).st j = s.st j := rfl
@[simp] theorem State.present_elapse (s : State) (dt : Ticks) (j : StationId) : (s.elapse dt).present j = s.present j := rfl
@[simp] theorem State.st_reach (s : State) (t : Ticks) (j : StationId) : (s.reach t).st j = s.st j := rfl
@[simp] theorem State.present_reach (s : State) (t : Ticks) (j : StationId) : (s.reach t).present j = s.present j := rfl
@[simp] theorem State.st_raiseNumber (s : State) (n : Nat) (j : StationId) : (s.raiseNumber n).st j = s.st j := rfl
@[simp] theorem State.present_raiseNumber (s : State) (n : Nat) (j : StationId) : (s.raiseNumber n).present j = s.present j := rfl
@[simp] theorem State.st_reply (s : State) (k : Byte) (a : Answer) (j : StationId) : (s.reply k a).st j = s.st j := rfl
@[simp] theorem State.present_reply (s : State) (k : Byte) (a : Answer) (j : StationId) : (s.reply k a).present j = s.present j := rfl
@[simp] theorem State.st_listen (s : State) (j : StationId) : (s.listen).st j = s.st j := rfl
@[simp] theorem State.present_listen (s : State) (j : StationId) : (s.listen).present j = s.present j := rfl
@[simp] theorem State.st_setKey (s : State) (k : Bool) (j : StationId) : (s.setKey k).st j = s.st j := rfl
@[simp] theorem State.present_setKey (s : State) (k : Bool) (j : StationId) : (s.setKey k).present j = s.present j := rfl
@[simp] theorem State.st_resyncFrom (s : State) (t : Ticks) (j : StationId) : (s.resyncFrom t).st j = s.st j := rfl
@[simp] theorem State.present_resyncFrom (s : State) (t : Ticks) (j : StationId) : (s.resyncFrom t).present j = s.present j := rfl
@[simp] theorem State.st_countError (s : State) (j : StationId) : (s.countError).st j = s.st j := rfl
@[simp] theorem State.present_countError (s : State) (j : StationId) : (s.countError).present j = s.present j := rfl

@[simp] theorem State.present_modSt (s : State) (i : StationId) (f : Station → Station) (j : StationId) :
    (s.modSt i f).present j = s.present j := rfl
@[simp] theorem State.clock_elapse (s : State) (dt : Ticks) : (s.elapse dt).clock = s.clock + dt := rfl
@[simp] theorem State.clock_reach (s : State) (t : Ticks) : (s.reach t).clock = max s.clock t := rfl
@[simp] theorem State.raised_raiseNumber (s : State) (n : Nat) : (s.raiseNumber n).raised = s.raised ||| sourceBit n := rfl

/-! ## The gates -/

theorem State.whenRunning_of (s : State) (f : State → State) (h : s.phase = .running) : s.whenRunning f = f s := by
  simp [State.whenRunning, h]

theorem State.onStation_of (s : State) (i : StationId) (f : State → State) (h : s.phase = .running)
    (hp : s.present i = true) : s.onStation i f = f s := by
  simp [State.onStation, h, hp]

@[simp] theorem State.atExpiry_none (s : State) (f : State → State) : s.atExpiry none f = s := rfl
@[simp] theorem State.atExpiry_some (s : State) (t : Ticks) (f : State → State) : s.atExpiry (some t) f = f (s.reach t) := rfl

/-- A request a running, hearing device takes is its block function and the reply. -/
theorem State.answered_of (s : State) (dt : Ticks) (kind : Byte) (f : State → State × Answer) (h : s.phase = .running)
    (hh : s.link.hears = true) (ha : s.link.addr ≠ 0) :
    s.answered dt kind f = (f (s.elapse dt)).1.reply kind (f (s.elapse dt)).2 := by
  simp [State.answered, State.whenRunning, h, hh, ha]

/-- The named station of a request that is present. -/
theorem onNamed_of (s : State) (i : StationId) (f : StationId → State × Answer) (hp : s.present i = true) :
    onNamed s i.val f = f i := by
  simp [onNamed, hp]

end Machine
end Sys2Proof
end

