-- ==== Sys2Proof/Laws/Chain.lean ====
section
/-!
SUPPORT. What the output rate, the stop set and the chain coupling can change (R119, R121, R132, R133): the frames of `setOutput`, `setStops`,
`chainEval` and `chainSettle`, and that each of them keeps the output law.
-/

namespace Sys2Proof.Machine

/-! ## Frames of the regulator operations -/

theorem setOutput_frame (now : Ticks) (t : FeedTuning) (f : FeedRegulator) (r : Nat) :
    setOutput now t f r = { f with output := r, wave := (setOutput now t f r).wave } := by
  unfold setOutput
  split
  · subst_vars; rfl
  · split
    · subst_vars; rfl
    · split <;> rfl

@[simp] theorem setOutput_output (now : Ticks) (t : FeedTuning) (f : FeedRegulator) (r : Nat) :
    (setOutput now t f r).output = r := by
  rw [setOutput_frame]

/-- After a change of the output rate a waveform runs exactly while the rate is above 0, where it did so before (R138). -/
theorem setOutput_wave (now : Ticks) (t : FeedTuning) (f : FeedRegulator) (r : Nat)
    (h : f.wave.isSome = decide (0 < f.output)) :
    (setOutput now t f r).wave.isSome = decide (0 < r) := by
  unfold setOutput
  split
  · subst_vars; exact h
  · split
    · subst_vars; rfl
    · rename_i hr
      have : 0 < r := Nat.pos_of_ne_zero hr
      split <;> simp [this]

/-- The three things `setStops` can do: stop the feeder, restart it, or change the stop set alone (R121). -/
theorem setStops_cases (now : Ticks) (t : FeedTuning) (f : FeedRegulator) (x : StopSet) :
    (f.stops.any = false ∧ x.any = true ∧ setStops now t f x = stopFeed now t { f with stops := x }) ∨
    (f.stops.any = true ∧ x.any = false ∧ f.mode ≠ .stop ∧
      setStops now t f x = restartFeed now t { f with stops := x }) ∨
    ((f.stops.any = x.any ∨ (x.any = false ∧ f.mode = .stop)) ∧ setStops now t f x = { f with stops := x }) := by
  unfold setStops
  by_cases h1 : f.stops.any = false ∧ x.any = true
  · exact .inl ⟨h1.1, h1.2, by simp [h1]⟩
  · by_cases h2 : f.stops.any = true ∧ x.any = false ∧ f.mode ≠ .stop
    · exact .inr (.inl ⟨h2.1, h2.2.1, h2.2.2, by simp [h2]⟩)
    · refine .inr (.inr ⟨?_, by simp only [if_neg h1, if_neg h2]⟩)
      cases ha : f.stops.any <;> cases hb : x.any <;> simp_all

/-- A change of the stop set leaves the mode, the manual rate, the timers, the reasons to hold and reduce, and the downstream set. -/
theorem setStops_frame (now : Ticks) (t : FeedTuning) (f : FeedRegulator) (x : StopSet) :
    setStops now t f x = { f with
      demand := (setStops now t f x).demand, output := (setStops now t f x).output
      prevError := (setStops now t f x).prevError, stops := x, wave := (setStops now t f x).wave } := by
  obtain ⟨-, -, h⟩ | ⟨-, -, -, h⟩ | ⟨-, h⟩ := setStops_cases now t f x
  · rw [h, stopFeed, setOutput_frame]
  · rw [h, restartFeed, setOutput_frame]
  · rw [h]

@[simp] theorem setStops_stops (now : Ticks) (t : FeedTuning) (f : FeedRegulator) (x : StopSet) :
    (setStops now t f x).stops = x := by rw [setStops_frame]
@[simp] theorem setStops_mode (now : Ticks) (t : FeedTuning) (f : FeedRegulator) (x : StopSet) :
    (setStops now t f x).mode = f.mode := by rw [setStops_frame]
@[simp] theorem setStops_manualRate (now : Ticks) (t : FeedTuning) (f : FeedRegulator) (x : StopSet) :
    (setStops now t f x).manualRate = f.manualRate := by rw [setStops_frame]
@[simp] theorem setStops_controlTimer (now : Ticks) (t : FeedTuning) (f : FeedRegulator) (x : StopSet) :
    (setStops now t f x).controlTimer = f.controlTimer := by rw [setStops_frame]
@[simp] theorem setStops_chainTimer (now : Ticks) (t : FeedTuning) (f : FeedRegulator) (x : StopSet) :
    (setStops now t f x).chainTimer = f.chainTimer := by rw [setStops_frame]
@[simp] theorem setStops_gapMove (now : Ticks) (t : FeedTuning) (f : FeedRegulator) (x : StopSet) :
    (setStops now t f x).gapMove = f.gapMove := by rw [setStops_frame]
@[simp] theorem setStops_gapLoadWait (now : Ticks) (t : FeedTuning) (f : FeedRegulator) (x : StopSet) :
    (setStops now t f x).gapLoadWait = f.gapLoadWait := by rw [setStops_frame]
@[simp] theorem setStops_powerHigh (now : Ticks) (t : FeedTuning) (f : FeedRegulator) (x : StopSet) :
    (setStops now t f x).powerHigh = f.powerHigh := by rw [setStops_frame]
@[simp] theorem setStops_downstream (now : Ticks) (t : FeedTuning) (f : FeedRegulator) (x : StopSet) :
    (setStops now t f x).downstream = f.downstream := by rw [setStops_frame]
@[simp] theorem setStops_tuned (now : Ticks) (t : FeedTuning) (f : FeedRegulator) (x : StopSet) :
    (setStops now t f x).tuned = f.tuned := by rw [setStops_frame]

/-- A change of the stop set that empties or fills nothing changes nothing else (R121). -/
theorem setStops_same (now : Ticks) (t : FeedTuning) (f : FeedRegulator) (x : StopSet)
    (h : f.stops.any = x.any ∨ f.mode = .stop ∧ x.any = false) : setStops now t f x = { f with stops := x } := by
  obtain ⟨ha, hb, -⟩ | ⟨ha, hb, hm, -⟩ | ⟨-, e⟩ := setStops_cases now t f x
  · simp_all
  · simp_all
  · exact e

/-- Under a stop reason the output rate is 0, where the output law held before (R119, R121). -/
theorem setStops_output_zero (now : Ticks) (t : FeedTuning) (f : FeedRegulator) (x : StopSet)
    (hx : x.any = true) (hf : f.stops.any = true → f.output = 0) : (setStops now t f x).output = 0 := by
  obtain ⟨-, -, h⟩ | ⟨-, hb, -⟩ | ⟨hs, h⟩ := setStops_cases now t f x
  · rw [h]; simp [stopFeed]
  · simp_all
  · rw [h]; simp_all

/-! ## The chain coupling -/

/-- What one evaluation can do at its own station: its regulator changes in what the chain coupling may change. -/
theorem chainEval_self (s : State) (i : StationId) :
    ∃ f, (s.st i).feed.Chained f ∧ s.chainEval i = s.modSt i fun st => { st with feed := f } := by
  unfold State.chainEval
  split
  · split
    · by_cases h : (s.st i).feed.stops.downstream || (s.st i).feed.chainTimer.isSome
      · refine ⟨(s.st i).feed, rfl, ?_⟩
        simp only [State.modSt, h, if_true]
      · refine ⟨{ (s.st i).feed with
          chainTimer := some (s.clock + secTicks (s.st i).record.feedTuning.chainDelay) }, rfl, ?_⟩
        simp only [State.modSt, h]
        rfl
    · refine ⟨setStops s.clock (s.st i).record.feedTuning { (s.st i).feed with chainTimer := none }
        { (s.st i).feed.stops with downstream := false }, ?_, rfl⟩
      unfold FeedRegulator.Chained
      rw [setStops_frame]
  · refine ⟨(s.st i).feed, rfl, ?_⟩
    have : s.stations = s.stations.set i (s.stations.get i) := by
      apply Quad.ext_get
      intro j
      by_cases h : j = i
      · subst h; simp
      · rw [Quad.get_set_ne _ _ h]
    show s = { s with stations := s.stations.set i (s.stations.get i) }
    rw [← this]

theorem FeedRegulator.Chained.refl (f : FeedRegulator) : f.Chained f := rfl

theorem FeedRegulator.Chained.trans {f g h : FeedRegulator} (a : f.Chained g) (b : g.Chained h) : f.Chained h := by
  unfold FeedRegulator.Chained at *
  rw [b, a]

theorem Station.Kept.refl (a : Station) : a.Kept a := ⟨rfl, rfl⟩

theorem Station.Kept.trans {a b c : Station} (h : a.Kept b) (k : b.Kept c) : a.Kept c := by
  refine ⟨?_, h.2.trans k.2⟩
  rw [k.1, h.1]

/-- The chain coupling changes nothing but the stations. -/
def State.ChainStep (s t : State) : Prop := t = { s with stations := t.stations } ∧ ∀ j, (s.st j).Kept (t.st j)

theorem State.ChainStep.refl (s : State) : s.ChainStep s := ⟨rfl, fun _ => .refl _⟩

theorem State.ChainStep.trans {s t u : State} (a : s.ChainStep t) (b : t.ChainStep u) : s.ChainStep u := by
  refine ⟨?_, fun j => (a.2 j).trans (b.2 j)⟩
  rw [b.1, a.1]

theorem chainEval_step (s : State) (i : StationId) : s.ChainStep (s.chainEval i) := by
  obtain ⟨f, hf, e⟩ := chainEval_self s i
  rw [e]
  refine ⟨rfl, fun j => ?_⟩
  rw [State.st_modSt]
  split
  · subst_vars; exact ⟨rfl, hf⟩
  · exact .refl _

theorem chainSweep_step (s : State) : s.ChainStep s.chainSweep := by
  show s.ChainStep (((((s.chainEval 0).chainEval 1).chainEval 2)).chainEval 3)
  exact (((chainEval_step s 0).trans (chainEval_step _ 1)).trans (chainEval_step _ 2)).trans (chainEval_step _ 3)

/-- The chain coupling at the end of an event: every block but the regulators stands, and of each regulator all but its demand, output
rate, previous level error, DOWNSTREAM, chain timer and waveform. -/
theorem chainSettle_step (s : State) : s.ChainStep s.chainSettle :=
  (((chainSweep_step s).trans (chainSweep_step _)).trans (chainSweep_step _)).trans (chainSweep_step _)

/-- A property that every evaluation keeps is kept by the whole coupling. -/
theorem chainSettle_induct {P : State → Prop} (step : ∀ s i, P s → P (s.chainEval i)) (s : State) (h : P s) :
    P s.chainSettle := by
  have sweep : ∀ s, P s → P s.chainSweep := fun s h => step _ 3 (step _ 2 (step _ 1 (step _ 0 h)))
  exact sweep _ (sweep _ (sweep _ (sweep _ h)))

/-- A stop set that is not empty without DOWNSTREAM is not empty. -/
theorem StopSet.any_of_without {x : StopSet} (h : ({ x with downstream := false } : StopSet).any = true) :
    x.any = true := by
  simp only [StopSet.any, Bool.or_false, Bool.or_eq_true] at h ⊢
  exact .inl h

/-- A regulator with a stop reason of its own besides DOWNSTREAM, or without DOWNSTREAM, or in STOP is not restarted by the chain. -/
def FeedRegulator.ChainSafe (f : FeedRegulator) : Prop :=
  f.stops.downstream = false ∨ f.mode = .stop ∨ ({ f.stops with downstream := false } : StopSet).any = true

/-- What the chain coupling leaves in a regulator that it cannot restart. -/
def FeedRegulator.Still (f g : FeedRegulator) : Prop :=
  g = { f with chainTimer := g.chainTimer, stops := { f.stops with downstream := g.stops.downstream } } ∧
    (f.stops.downstream = false → g.stops.downstream = false)

theorem chainEval_still (s : State) (i j : StationId) (f : FeedRegulator) (hs : f.ChainSafe) (h : f.Still (s.st j).feed) :
    f.Still ((s.chainEval i).st j).feed := by
  unfold State.chainEval
  split
  · split
    · rw [State.st_modSt]
      split
      · split
        · exact h
        · obtain ⟨h1, h2⟩ := h
          refine ⟨?_, h2⟩
          show ({ (s.st j).feed with chainTimer := _ } : FeedRegulator) = _
          rw [h1]
      · exact h
    · rw [State.st_modSt]
      split
      · obtain ⟨h1, h2⟩ := h
        have hmode : (s.st j).feed.mode = f.mode := by rw [h1]
        have hstops : ({ (s.st j).feed.stops with downstream := false } : StopSet) =
            { f.stops with downstream := false } := by rw [h1]
        have e := setStops_same s.clock (s.st j).record.feedTuning { (s.st j).feed with chainTimer := none }
          { (s.st j).feed.stops with downstream := false } (by
            show (s.st j).feed.stops.any = _ ∨ (s.st j).feed.mode = .stop ∧ _
            rcases hs with hd | hm | ha
            · left
              have := h2 hd
              congr 1
              rw [← this]
            · by_cases hb : ({ (s.st j).feed.stops with downstream := false } : StopSet).any = true
              · left
                rw [hb]
                exact StopSet.any_of_without hb
              · right
                exact ⟨hmode.trans hm, by simpa using hb⟩
            · left
              rw [hstops, ha]
              rw [← hstops] at ha
              exact StopSet.any_of_without ha)
        refine ⟨?_, fun _ => by simp⟩
        simp only [e]
        rw [h1]
      · exact h
  · exact h

/-- The chain coupling leaves a regulator it cannot restart as it was, but for its chain timer and DOWNSTREAM; it never posts DOWNSTREAM. -/
theorem chainSettle_still (s : State) (j : StationId) (hs : (s.st j).feed.ChainSafe) :
    (s.st j).feed.Still (s.chainSettle.st j).feed :=
  chainSettle_induct (P := fun t => (s.st j).feed.Still (t.st j).feed) (fun t i h => chainEval_still t i j _ hs h) s
    ⟨rfl, id⟩

/-- The end of an event at station `i`: the gap channel and every block but the regulators stand. -/
theorem settleFeed_step (s : State) (i : StationId) :
    (s.settleFeed i) = { s with stations := (s.settleFeed i).stations } ∧ s.OthersKept (s.settleFeed i) i ∧
      (s.settleFeed i).st i = { s.st i with feed := ((s.settleFeed i).st i).feed } := by
  obtain ⟨h1, h2⟩ := chainSettle_step (s.modSt i (Station.syncReasons s.clock))
  refine ⟨h1, fun j hj => ?_, ?_⟩
  · have := h2 j
    rwa [State.st_modSt_ne s _ hj] at this
  · have := (h2 i).1
    rw [State.st_modSt_self] at this
    exact this

end Sys2Proof.Machine
end

