-- ==== Sys2Proof/Laws/Exec.lean ====
section
/-!
SUPPORT. `exec` as a whole: every command answers a next state, and a completion is said of the state that `exec` answers.
-/

namespace Sys2Proof.Machine

/-- Every command answers a next state in every state of the device (assumption log 3). -/
theorem exec_next (c : Instr) (s : State) : ∃ t, exec c s = .next t := by
  cases c <;> exact ⟨_, rfl⟩

/-- A completion, where the state answered is known. -/
theorem takes_of {c : Instr} {s t : State} {Q : State → Prop} (h : exec c s = .next t) (q : Q t) : Takes c s Q :=
  ⟨t, h, q⟩

/-- What holds of a command's next state holds of the state it is known to answer. -/
theorem of_takes {c : Instr} {s t : State} {Q : State → Prop} (k : Takes c s Q) (h : exec c s = .next t) : Q t := by
  obtain ⟨u, hu, q⟩ := k
  rw [hu] at h
  cases h
  exact q

/-- A step takes a waiting command, or stays. -/
theorem step_cases {s t : State} (h : step s = .next t) :
    (s.pending = [] ∧ t = s) ∨ ∃ c rest, s.pending = c :: rest ∧ exec c { s with pending := rest } = .next t := by
  unfold step at h
  split at h
  · rename_i hp
    cases h
    exact .inl ⟨hp, rfl⟩
  · rename_i c rest hp
    exact .inr ⟨c, rest, hp, h⟩

/-- A predicate that every command keeps, and that does not look at the queue, is kept by every step. -/
theorem step_induct {P : State → Prop} (queue : ∀ s q, P s → P { s with pending := q })
    (keeps : ∀ c s t, P s → exec c s = .next t → P t) {s t : State} (h : P s) (e : step s = .next t) : P t := by
  obtain ⟨-, rfl⟩ | ⟨c, rest, -, he⟩ := step_cases e
  · exact h
  · exact keeps c _ t (queue s rest h) he

end Sys2Proof.Machine
end

