-- ==== Sys2Proof/Laws/Records.lean ====
section
/-!
SUPPORT. The lengths of the parts of the reply records, and how a field is read from parts put together (13.5, R191).
-/

namespace Sys2Proof.Machine

@[simp] theorem length_beBytes (w n : Nat) : (beBytes w n).length = w := by
  induction w with
  | zero => rfl
  | succ w ih => simp [beBytes, ih]

@[simp] theorem length_optBytes (w : Nat) (x : Option Nat) : (optBytes w x).length = w := length_beBytes w _

@[simp] theorem length_zeroBytes (n : Nat) : (zeroBytes n).length = n := List.length_replicate

@[simp] theorem length_signedBytes (n : Int) : (signedBytes n).length = 4 := length_beBytes 4 _

@[simp] theorem length_queueSlot (e : SettingEntry) : (queueSlot e).length = 12 := by simp [queueSlot]

@[simp] theorem length_moveBytes (now : Ticks) (m : Move) (last : Bool) : (moveBytes now m last).length = 21 := by
  simp [moveBytes]

@[simp] theorem length_lastMoveBytes (r : LastMove) : (lastMoveBytes r).length = 12 := by simp [lastMoveBytes]

@[simp] theorem length_histBytes (e : HistEntry) : (histBytes e).length = 20 := by simp [histBytes]

@[simp] theorem length_lastCalBytes (r : LastCal) : (lastCalBytes r).length = 13 := by simp [lastCalBytes]

theorem length_optRecord {α : Type} {len : Nat} {f : α → List Byte} (h : ∀ a, (f a).length = len) (x : Option α) :
    (optRecord len f x).length = len := by
  cases x <;> simp [optRecord, h]

theorem length_slots {α : Type} {n len : Nat} {f : α → List Byte} (h : ∀ a, (f a).length = len) (xs : List α)
    (k : xs.length ≤ n) : (slots n len f xs).length = n * len := by
  have e : ((xs.map f).flatten).length = xs.length * len := by
    clear k
    induction xs with
    | nil => simp
    | cons a xs ih => simp [ih, h, Nat.add_mul, Nat.add_comm]
  rw [slots, List.take_of_length_le k, List.length_append, e, length_zeroBytes, ← Nat.add_mul, Nat.add_sub_cancel' k]

/-- A field that lies in the first part is read there. -/
theorem fieldAt_append_left {a b : List Byte} {o w : Nat} (h : o + w ≤ a.length) :
    fieldAt (a ++ b) o w = fieldAt a o w := by
  rw [fieldAt, fieldAt, List.drop_append_of_le_length (by omega), List.take_append_of_le_length (by simp; omega)]

/-- A field that lies behind the first part is read in the second. -/
theorem fieldAt_append_right {a b : List Byte} {o w : Nat} (h : a.length ≤ o) :
    fieldAt (a ++ b) o w = fieldAt b (o - a.length) w := by
  rw [fieldAt, fieldAt, List.drop_append, List.drop_of_length_le h, List.nil_append]

theorem fold_beBytes (w n acc : Nat) :
    (beBytes w n).foldl (fun n b => 256 * n + b.toNat) acc = acc * 256 ^ w + n % 256 ^ w := by
  induction w generalizing acc with
  | zero => simp [beBytes, Nat.mod_one]
  | succ w ih =>
    rw [beBytes, List.foldl_cons, ih, Nat.pow_succ, Nat.mod_mul, BitVec.toNat_ofNat, Nat.add_mul, Nat.mul_comm 256 acc,
      Nat.mul_assoc, Nat.mul_comm 256 (256 ^ w), Nat.mul_comm (_ % 2 ^ 8),
      show (2 : Nat) ^ 8 = 256 from rfl]
    omega

/-- A number sent in `w` bytes is read back modulo what they hold. -/
@[simp] theorem fieldAt_beBytes (w n : Nat) : fieldAt (beBytes w n) 0 w = n % 256 ^ w := by
  rw [fieldAt, List.drop_zero, List.take_of_length_le (by simp), fold_beBytes, Nat.zero_mul, Nat.zero_add]

end Sys2Proof.Machine
end

