-- ==== Sys2Proof/Laws/Store.lean ====
section
/-!
SUPPORT. The settings store: a sealed record reads as its contents and a spoiled one as none, and what a completed and a cut write can
change of the five records as start-up reads them (R184, R187).
-/

namespace Sys2Proof.Machine

@[simp] theorem Stored.read_sealRecord {α : Type} (bytes : α → List Byte) (c : α) :
    (sealRecord bytes c).read bytes = some c := by simp [Stored.read, sealRecord]

@[simp] theorem Stored.read_spoilRecord {α : Type} (bytes : α → List Byte) (c : α) :
    (spoilRecord bytes c).read bytes = none := by simp [Stored.read, spoilRecord]

/-- A valid record reads as its contents. -/
theorem Stored.contents_of_read {α : Type} {bytes : α → List Byte} {x : Stored α} {c : α} (h : x.read bytes = some c) :
    x.contents = c ∧ x.check = crc16 (bytes c) := by
  unfold Stored.read at h
  split at h
  · next hc => cases h; exact ⟨rfl, hc⟩
  · cases h

@[simp] theorem storeBlank_station (i : StationId) : storeBlank.station i = none := by
  unfold Store.station storeBlank
  simp

@[simp] theorem storeBlank_deviceRecord : storeBlank.deviceRecord = none := by
  unfold Store.deviceRecord storeBlank
  simp

/-- What a cut write leaves of the station records: the record being written reads as none, the others as before. -/
theorem cutWrite_station (w : Writer) (x : Store) (i : StationId) :
    (cutWrite w x).station i = match w with
      | .station j _ _ => if i = j then none else x.station i
      | _ => x.station i := by
  cases w with
  | station j r t =>
    by_cases h : i = j
    · subst h; simp [cutWrite, Store.station]
    · simp [cutWrite, Store.station, h, Quad.get_set_ne _ _ h]
  | _ => rfl

/-- What a completed write leaves of the station records: the record written reads as its copy, the others as before. -/
theorem finishWrite_station (w : Writer) (x : Store) (i : StationId) :
    (finishWrite w x).station i = match w with
      | .station j r _ => if i = j then some r else x.station i
      | _ => x.station i := by
  cases w with
  | station j r t =>
    by_cases h : i = j
    · subst h; simp [finishWrite, Store.station]
    · simp [finishWrite, Store.station, h, Quad.get_set_ne _ _ h]
  | _ => rfl

/-- The device record after a cut and after a completed write. -/
theorem cutWrite_deviceRecord (w : Writer) (x : Store) :
    (cutWrite w x).deviceRecord = match w with
      | .device _ _ => none
      | _ => x.deviceRecord := by
  cases w <;> simp [cutWrite, Store.deviceRecord]

theorem finishWrite_deviceRecord (w : Writer) (x : Store) :
    (finishWrite w x).deviceRecord = match w with
      | .device d _ => some d
      | _ => x.deviceRecord := by
  cases w <;> simp [finishWrite, Store.deviceRecord]

end Sys2Proof.Machine
end

