-- ==== Sys2Proof/Laws/Works.lean ====
section
/-!
SUPPORT. What the operations of the gap channel, the lots and the schedule can change, said once: `Works` relates the states before and after, and each
shared operation of Machine/LotOps, Machine/GapOps, Machine/Loop, Machine/Calibration and Machine/Relief that stays within it has one lemma.
-/

namespace Sys2Proof.Machine

/-! ## The relation -/

/-- Work of the gap channel, the lots and the schedule of one station: its record, channels, filters and regulator stand, and of the gap channel W, the
onset list, dry run and the test's input and timer. -/
def Station.Works (a b : Station) : Prop :=
  b = { a with gap := b.gap, lots := b.lots, sched := b.sched } ∧ b.gap.w = a.gap.w ∧ b.gap.onsets = a.gap.onsets ∧
    b.gap.dryRun = a.gap.dryRun ∧ b.gap.simTramp = a.gap.simTramp ∧ b.gap.testTimer = a.gap.testTimer ∧
    b.lots.mass = a.lots.mass ∧ b.lots.nextNumber = a.lots.nextNumber

/-- Work at station `i`: the other stations stand, and of the device all but the raised sources and the lot queue. -/
def State.Works (s t : State) (i : StationId) : Prop :=
  t = { s with stations := t.stations, raised := t.raised, lotQueue := t.lotQueue } ∧
    (∀ j, j ≠ i → t.st j = s.st j) ∧ (s.st i).Works (t.st i)

theorem Station.Works.refl (a : Station) : a.Works a := ⟨rfl, rfl, rfl, rfl, rfl, rfl, rfl, rfl⟩

theorem Station.Works.trans {a b c : Station} (h : a.Works b) (k : b.Works c) : a.Works c := by
  refine ⟨?_, k.2.1.trans h.2.1, k.2.2.1.trans h.2.2.1, k.2.2.2.1.trans h.2.2.2.1, k.2.2.2.2.1.trans h.2.2.2.2.1,
    k.2.2.2.2.2.1.trans h.2.2.2.2.2.1, k.2.2.2.2.2.2.1.trans h.2.2.2.2.2.2.1,
    k.2.2.2.2.2.2.2.trans h.2.2.2.2.2.2.2⟩
  rw [k.1, h.1]

theorem State.Works.refl (s : State) (i : StationId) : s.Works s i := ⟨rfl, fun _ _ => rfl, .refl _⟩

theorem State.Works.trans {s t u : State} {i : StationId} (h : s.Works t i) (k : t.Works u i) : s.Works u i := by
  refine ⟨?_, fun j hj => (k.2.1 j hj).trans (h.2.1 j hj), h.2.2.trans k.2.2⟩
  rw [k.1, h.1]

/-- The second of two pieces of work, then the first. -/
theorem State.Works.after {s t u : State} {i : StationId} (k : t.Works u i) (h : s.Works t i) : s.Works u i := h.trans k

theorem State.Works.clock {s t : State} {i : StationId} (h : s.Works t i) : t.clock = s.clock := by rw [h.1]
theorem State.Works.device {s t : State} {i : StationId} (h : s.Works t i) : t.device = s.device := by rw [h.1]
theorem State.Works.pending {s t : State} {i : StationId} (h : s.Works t i) : t.pending = s.pending := by rw [h.1]
theorem State.Works.record {s t : State} {i : StationId} (h : s.Works t i) : (t.st i).record = (s.st i).record := by
  rw [h.2.2.1]
theorem State.Works.feed {s t : State} {i : StationId} (h : s.Works t i) : (t.st i).feed = (s.st i).feed := by
  rw [h.2.2.1]
theorem State.Works.w {s t : State} {i : StationId} (h : s.Works t i) : (t.st i).gap.w = (s.st i).gap.w := h.2.2.2.1

/-- Work keeps the wear law at its station (R27). -/
theorem Station.Works.wearHolds {a b : Station} (h : a.Works b) (k : a.WearHolds) : b.WearHolds := by
  unfold Station.WearHolds at *
  rw [h.2.1, h.1]
  exact k

/-! ## Steps that make the operations up -/

theorem Works.modSt (s : State) (i : StationId) (f : Station → Station) (h : (s.st i).Works (f (s.st i))) :
    s.Works (s.modSt i f) i := by
  refine ⟨rfl, fun j hj => State.st_modSt_ne s f hj, ?_⟩
  rw [State.st_modSt_self]
  exact h

theorem Works.modGap (s : State) (i : StationId) (f : GapChannel → GapChannel)
    (h : ∀ g, (f g).w = g.w ∧ (f g).onsets = g.onsets ∧ (f g).dryRun = g.dryRun ∧ (f g).simTramp = g.simTramp ∧
      (f g).testTimer = g.testTimer) : s.Works (s.modGap i f) i :=
  have k := h (s.st i).gap
  Works.modSt s i _ ⟨rfl, k.1, k.2.1, k.2.2.1, k.2.2.2.1, k.2.2.2.2, rfl, rfl⟩

theorem Works.modMove (s : State) (i : StationId) (f : Move → Move) : s.Works (s.modMove i f) i :=
  Works.modGap s i _ fun _ => ⟨rfl, rfl, rfl, rfl, rfl⟩

theorem Works.modSched (s : State) (i : StationId) (f : Schedule → Schedule) : s.Works (s.modSched i f) i :=
  Works.modSt s i _ ⟨rfl, rfl, rfl, rfl, rfl, rfl, rfl, rfl⟩

theorem Works.raise (s : State) (i j : StationId) (k : StationSource) : s.Works (s.raise j k) i :=
  ⟨rfl, fun _ _ => rfl, .refl _⟩

theorem Works.raiseDevice (s : State) (i : StationId) (k : DeviceSource) : s.Works (s.raiseDevice k) i :=
  ⟨rfl, fun _ _ => rfl, .refl _⟩

/-! ## Lots (R145, R146, R149) -/

theorem Works.queueLot (s : State) (r : LotRecord) : s.Works (s.queueLot r) r.station := by
  unfold State.queueLot
  split
  · split
    · exact ⟨rfl, fun _ _ => rfl, .refl _⟩
    · exact ⟨rfl, fun _ _ => rfl, .refl _⟩
  · exact (Works.modSt s r.station _ ⟨rfl, rfl, rfl, rfl, rfl, rfl, rfl, rfl⟩).trans (Works.raiseDevice _ _ _)

theorem Works.closeLot (s : State) (i : StationId) (reason : CloseReason) : s.Works (s.closeLot i reason) i := by
  unfold State.closeLot
  split
  · exact .refl s i
  · exact (Works.modSt s i _ ⟨rfl, rfl, rfl, rfl, rfl, rfl, rfl, rfl⟩).trans (Works.queueLot _ _)

theorem Works.handTarget (s : State) (i : StationId) (eff : Nat) : s.Works (s.handTarget i eff) i := by
  unfold State.handTarget
  split
  · exact .refl s i
  · split
    · exact .refl s i
    · exact Works.closeLot s i _

/-! ## Phases, entries and the schedule (R43, R44, R71, R153, R154) -/

theorem Works.leavePhase (s : State) (i : StationId) : s.Works (s.leavePhase i) i := by
  refine Works.modSt s i _ ?_
  unfold Machine.leavePhase
  split
  · exact .refl _
  · split
    · exact .refl _
    · exact ⟨rfl, rfl, rfl, rfl, rfl, rfl, rfl, rfl⟩
    · unfold GapChannel.simPulse
      dsimp only
      split <;> exact ⟨rfl, rfl, rfl, rfl, rfl, rfl, rfl, rfl⟩
    · exact ⟨rfl, rfl, rfl, rfl, rfl, rfl, rfl, rfl⟩

theorem Works.activateHead (s : State) (i : StationId) : s.Works (s.activateHead i) i := by
  unfold State.activateHead
  dsimp only
  split
  · exact .refl s i
  · split
    · exact (Works.handTarget _ i _).after (Works.modGap s i _ fun _ => ⟨rfl, rfl, rfl, rfl, rfl⟩)
    · exact Works.modGap s i _ fun _ => ⟨rfl, rfl, rfl, rfl, rfl⟩

theorem Works.joinQueue (s : State) (i : StationId) (e : SettingEntry) : s.Works (s.joinQueue i e) i := by
  unfold State.joinQueue
  dsimp only
  split
  · exact (Works.activateHead _ i).after (Works.modGap s i _ fun _ => ⟨rfl, rfl, rfl, rfl, rfl⟩)
  · exact Works.modGap s i _ fun _ => ⟨rfl, rfl, rfl, rfl, rfl⟩

theorem Works.spaceEvent (s : State) (i : StationId) : s.Works (s.spaceEvent i) i := by
  unfold State.spaceEvent
  dsimp only
  split
  · exact (Works.modSched s i _).trans (Works.joinQueue _ i _)
  · exact .refl s i

theorem Works.spaceIf (s : State) (had : Bool) (i : StationId) : s.Works (s.spaceIf had i) i := by
  unfold State.spaceIf
  split
  · exact Works.spaceEvent s i
  · exact .refl s i

theorem Works.activate (s : State) (i : StationId) : s.Works (s.activate i) i :=
  (Works.activateHead s i).trans (Works.spaceEvent _ i)

theorem Works.enqueue (s : State) (i : StationId) (e : SettingEntry) : s.Works (s.enqueue i e) i := by
  unfold State.enqueue
  dsimp only
  split
  · exact (Works.joinQueue s i e).trans (Works.spaceEvent _ i)
  · exact Works.joinQueue s i e

theorem Works.scheduleEnqueue (s : State) (i : StationId) : s.Works (s.scheduleEnqueue i) i := by
  unfold State.scheduleEnqueue
  dsimp only
  split
  · exact Works.modSched s i _
  · exact Works.enqueue s i _

theorem Works.scheduleAdvance (s : State) (i : StationId) : s.Works (s.scheduleAdvance i) i := by
  unfold State.scheduleAdvance
  dsimp only
  split
  · exact (Works.modSched s i _).trans (Works.scheduleEnqueue _ i)
  · split
    · exact (Works.modSched s i _).trans (Works.scheduleEnqueue _ i)
    · exact (Works.modSched s i _).trans (Works.raise _ i i _)

theorem Works.stopSchedule (s : State) (i : StationId) : s.Works (s.stopSchedule i) i := Works.modSched s i _

theorem Works.fullClose (s : State) (i : StationId) : s.Works (s.fullClose i) i := by
  unfold State.fullClose
  dsimp only
  split
  · exact Works.scheduleAdvance s i
  · exact .refl s i

theorem Works.emptyQueue (s : State) (i : StationId) : s.Works (s.emptyQueue i) i :=
  Works.modGap s i _ fun _ => ⟨rfl, rfl, rfl, rfl, rfl⟩

/-! ## Rest, and the ends of moves, contexts, calibrations and reliefs (R40, R47, R80, R81, R99, R101, R112, R164) -/

theorem Works.trimCheck (s : State) (i : StationId) : s.Works (s.trimCheck i) i := by
  unfold State.trimCheck
  dsimp only
  split
  · exact Works.enqueue s i _
  · exact .refl s i

theorem Works.toRest (s : State) (i : StationId) : s.Works (s.toRest i) i := by
  unfold State.toRest
  dsimp only
  have k : s.Works (s.modGap i fun g => { g with state := .idle }) i :=
    Works.modGap s i _ fun _ => ⟨rfl, rfl, rfl, rfl, rfl⟩
  split
  · split
    · exact k.trans (Works.trimCheck _ i)
    · exact k.trans (Works.activate _ i)
  · exact Works.modGap s i _ fun _ => ⟨rfl, rfl, rfl, rfl, rfl⟩

theorem Works.endMove (s : State) (i : StationId) (r : MoveResult) : s.Works (s.endMove i r) i := by
  unfold State.endMove
  dsimp only
  split
  · exact Works.leavePhase s i
  · refine (Works.leavePhase s i).trans (.trans ?_ (Works.raise _ i i _))
    exact Works.modSt _ i _ ⟨rfl, rfl, rfl, rfl, rfl, rfl, rfl, rfl⟩

theorem Works.dropContext (s : State) (i : StationId) (r : MoveResult) : s.Works (s.dropContext i r) i := by
  unfold State.dropContext
  split
  · exact .refl s i
  · exact (Works.modSt s i _ ⟨rfl, rfl, rfl, rfl, rfl, rfl, rfl, rfl⟩).trans (Works.raise _ i i _)

theorem Works.endCalibration (s : State) (i : StationId) (r : CalResult) : s.Works (s.endCalibration i r) i := by
  unfold State.endCalibration
  dsimp only
  split
  · exact Works.leavePhase s i
  · refine (Works.leavePhase s i).trans (.trans ?_ (Works.raise _ i i _))
    exact Works.modSt _ i _ ⟨rfl, rfl, rfl, rfl, rfl, rfl, rfl, rfl⟩

theorem Works.discardRelief (s : State) (i : StationId) : s.Works (s.discardRelief i) i :=
  Works.modGap s i _ fun _ => ⟨rfl, rfl, rfl, rfl, rfl⟩

theorem Works.endWorkFaulted (s : State) (i : StationId) : s.Works (s.endWorkFaulted i) i := by
  unfold State.endWorkFaulted
  split
  · exact Works.endMove s i _
  · exact Works.endMove s i _
  · exact Works.dropContext s i _
  · refine (Works.leavePhase s i).trans (.trans ?_ (Works.dropContext _ i _))
    exact Works.modGap _ i _ fun _ => ⟨rfl, rfl, rfl, rfl, rfl⟩
  · exact Works.endCalibration s i _
  · exact .refl s i

theorem Works.enterFaulted (s : State) (i : StationId) (cause : FaultCause) : s.Works (s.enterFaulted i cause) i := by
  unfold State.enterFaulted
  refine (Works.endWorkFaulted s i).trans ((Works.discardRelief _ i).trans ((Works.stopSchedule _ i).trans ?_))
  refine (Works.emptyQueue _ i).trans (.trans ?_ (Works.raise _ i i _))
  exact Works.modGap _ i _ fun _ => ⟨rfl, rfl, rfl, rfl, rfl⟩

theorem Works.endRelief (s : State) (i : StationId) : s.Works (s.endRelief i) i := by
  unfold State.endRelief
  dsimp only
  have k : s.Works (((s.leavePhase i).modGap i fun g => { g with move := none }).discardRelief i) i :=
    (Works.leavePhase s i).trans
      ((Works.discardRelief _ i).after (Works.modGap _ i _ fun _ => ⟨rfl, rfl, rfl, rfl, rfl⟩))
  split
  · exact k.trans (Works.modSt _ i _ ⟨rfl, rfl, rfl, rfl, rfl, rfl, rfl, rfl⟩)
  · exact k.trans (Works.toRest _ i)

/-! ## The loop (R65 to R73) -/

theorem Works.finishLoop (s : State) (i : StationId) (r : MoveResult) : s.Works (s.finishLoop i r) i := by
  unfold State.finishLoop
  split
  · exact (Works.endMove s i r).trans (Works.toRest _ i)
  · exact (Works.endMove s i r).trans (Works.toRest _ i)
  · split
    · exact Works.endRelief s i
    · exact Works.enterFaulted s i _
  · exact (Works.endCalibration s i _).trans (Works.toRest _ i)
  · exact .refl s i

theorem Works.beginPulse (now : Ticks) (p width : Nat) (a : Station) : a.Works (beginPulse now p width a) := by
  unfold Machine.beginPulse
  split
  · exact .refl a
  · unfold GapChannel.drive
    dsimp only
    split <;> exact ⟨rfl, rfl, rfl, rfl, rfl, rfl, rfl, rfl⟩

theorem Works.enterPulse (s : State) (i : StationId) (p : Nat) : s.Works (s.enterPulse i p) i :=
  Works.modSt s i _ (Works.beginPulse _ _ _ _)

theorem Works.enterWaitLoad (s : State) (i : StationId) : s.Works (s.enterWaitLoad i) i :=
  Works.modSt s i _ ⟨rfl, rfl, rfl, rfl, rfl, rfl, rfl, rfl⟩

theorem Works.settleDecision (s : State) (i : StationId) : s.Works (s.settleDecision i) i := by
  unfold State.settleDecision
  dsimp only
  split
  · split
    · exact Works.finishLoop s i _
    · split
      · exact (Works.finishLoop _ i _).after (Works.modMove s i _)
      · split
        · exact (Works.finishLoop _ i _).after (Works.modMove s i _)
        · split
          · exact (Works.enterWaitLoad _ i).after ((Works.modMove _ i _).after (Works.modMove s i _))
          · exact (Works.enterPulse _ i _).after ((Works.modMove _ i _).after (Works.modMove s i _))
  · exact .refl s i

theorem Works.pulseEnd (now : Ticks) (a : Station) : a.Works (pulseEnd now a) := by
  unfold Machine.pulseEnd
  split
  · exact .refl a
  · split
    · unfold GapChannel.simPulse
      dsimp only
      split <;> exact ⟨rfl, rfl, rfl, rfl, rfl, rfl, rfl, rfl⟩
    · exact .refl a

theorem Works.suspendNow (s : State) (i : StationId) : s.Works (s.suspendNow i) i :=
  (Works.leavePhase s i).trans
    ((Works.modMove _ i _).trans (Works.modGap _ i _ fun _ => ⟨rfl, rfl, rfl, rfl, rfl⟩))

/-! ## Calibration and relief (R98 to R107) -/

theorem Works.drainEval (s : State) (i : StationId) : s.Works (s.drainEval i) i := by
  refine Works.modSt s i _ ?_
  split
  · exact .refl _
  · dsimp only
    split
    · exact ⟨rfl, rfl, rfl, rfl, rfl, rfl, rfl, rfl⟩
    · exact .refl _

theorem Works.beginSeek (s : State) (i : StationId) : s.Works (s.beginSeek i) i :=
  Works.modSt s i _ ⟨rfl, rfl, rfl, rfl, rfl, rfl, rfl, rfl⟩

theorem Works.seekPulse (s : State) (i : StationId) (p : Nat) : s.Works (s.seekPulse i p) i :=
  (Works.modSt s i _ (Works.beginPulse _ _ _ _)).trans (Works.modGap _ i _ fun _ => ⟨rfl, rfl, rfl, rfl, rfl⟩)

theorem Works.clearance (s : State) (i : StationId) : s.Works (s.clearance i) i := by
  refine Works.modSt s i _ ?_
  split
  · exact ⟨rfl, rfl, rfl, rfl, rfl, rfl, rfl, rfl⟩
  · exact .refl _

theorem Works.onsetByState (s : State) (i : StationId) : s.Works (s.onsetByState i) i := by
  unfold State.onsetByState
  split
  · exact Works.modSt s i _ ⟨rfl, rfl, rfl, rfl, rfl, rfl, rfl, rfl⟩
  · exact Works.modSt s i _ ⟨rfl, rfl, rfl, rfl, rfl, rfl, rfl, rfl⟩
  · exact (Works.leavePhase s i).trans (Works.modSt _ i _ ⟨rfl, rfl, rfl, rfl, rfl, rfl, rfl, rfl⟩)
  · exact Works.modSt s i _ ⟨rfl, rfl, rfl, rfl, rfl, rfl, rfl, rfl⟩
  · exact (Works.endCalibration s i _).trans (Works.modGap _ i _ fun _ => ⟨rfl, rfl, rfl, rfl, rfl⟩)
  · exact Works.modGap s i _ fun _ => ⟨rfl, rfl, rfl, rfl, rfl⟩
  · exact (Works.leavePhase s i).trans (Works.modGap _ i _ fun _ => ⟨rfl, rfl, rfl, rfl, rfl⟩)
  · exact .refl s i
  · exact .refl s i

theorem Works.holdExpired (s : State) (i : StationId) : s.Works (s.holdExpired i) i := by
  unfold State.holdExpired
  dsimp only
  split
  · exact Works.modSt s i _ ⟨rfl, rfl, rfl, rfl, rfl, rfl, rfl, rfl⟩
  · exact Works.endRelief s i

/-- A position-lost event is work of the gap channel (R164). -/
theorem Works.positionLost (s : State) (i : StationId) : s.Works (s.positionLost i) i := by
  unfold State.positionLost
  split
  · exact .refl s i
  · exact (Works.raise _ i i _).after (Works.modGap s i _ fun _ => ⟨rfl, rfl, rfl, rfl, rfl⟩)
  · exact Works.enterFaulted s i _

end Sys2Proof.Machine
end

