-- ==== Sys2Proof/Tests/Slice0.lean ====
section
/-!
SUPPORT. The model's own tests: ill-formed commands that `wellFormed` refuses, figures and steps of the spec's worked cases, and for each
statement with hypotheses the states and operands that meet them.
-/

namespace Sys2Proof.Tests

open Sys2Proof Sys2Proof.Machine

set_option Elab.async false

/-! ## Well-formed commands: each check accepts one and refuses another -/

theorem test_wf_station_byte :
    (Instr.isolate 0 255).wellFormed = true ∧ (Instr.isolate 0 256).wellFormed = false := by decide +kernel

theorem test_wf_target_and_tag :
    (Instr.setGapAppend 0 1 18500 21).wellFormed = true ∧
    (Instr.setGapAppend 0 1 4294967296 21).wellFormed = false ∧
    (Instr.setGapReplace 0 1 18500 256).wellFormed = false := by decide +kernel

theorem test_wf_gap_tuning :
    (Instr.tuneGap 0 1 gapTuningDefault).wellFormed = true ∧
    (Instr.tuneGap 0 1 { gapTuningDefault with d := 256 }).wellFormed = false ∧
    (Instr.tuneGap 0 1 { gapTuningDefault with k := 65536 }).wellFormed = false := by decide +kernel

theorem test_wf_feed_tuning :
    (Instr.tuneFeed 0 1 feedTuningDefault).wellFormed = true ∧
    (Instr.tuneFeed 0 1 { feedTuningDefault with slew := 256 }).wellFormed = false ∧
    (Instr.tuneFeed 0 1 { feedTuningDefault with kp := 65536 }).wellFormed = false ∧
    (Instr.tuneFeed 0 1 { feedTuningDefault with fHi := 4294967296 }).wellFormed = false := by decide +kernel

theorem test_wf_limits :
    (Instr.setLimits 0 1 limitsDefault true).wellFormed = true ∧
    (Instr.setLimits 0 1 { limitsDefault with cssMin := 4294967296 } true).wellFormed = false ∧
    (Instr.setLimits 0 1 { limitsDefault with powerTrip := 65536 } true).wellFormed = false := by decide +kernel

theorem test_wf_set_feed :
    (Instr.setFeed 0 true 255 1 65535).wellFormed = true ∧ (Instr.setFeed 0 true 255 1 65536).wellFormed = false ∧
    (Instr.setFeed 0 true 255 256 0).wellFormed = false := by decide +kernel

theorem test_wf_schedule :
    (Instr.loadSchedule 0 1 [⟨20000, 50000⟩]).wellFormed = true ∧
    (Instr.loadSchedule 0 1 (List.replicate 25 ⟨0, 0⟩)).wellFormed = false ∧
    (Instr.loadSchedule 0 1 [⟨20000, 4294967296⟩]).wellFormed = false ∧
    (Instr.runScheduleStart 0 1 1 256).wellFormed = false := by decide +kernel

theorem test_wf_sources :
    (Instr.clearAttention 0 [0, 35]).wellFormed = true ∧ (Instr.clearAttention 0 [256]).wellFormed = false ∧
    (Instr.raiseAttention 0 (List.replicate 199 0)).wellFormed = false := by decide +kernel

theorem test_wf_device_values :
    (Instr.configureDevice 0 ⟨0x0F#8, 1, 60, 50000, 100000, 1⟩).wellFormed = true ∧
    (Instr.configureDevice 0 ⟨0x0F#8, 256, 60, 50000, 100000, 1⟩).wellFormed = false ∧
    (Instr.configureDevice 0 ⟨0x0F#8, 1, 65536, 50000, 100000, 1⟩).wellFormed = false := by decide +kernel

theorem test_wf_waits :
    (Instr.storeWriteComplete 4800000).wellFormed = true ∧ (Instr.storeWriteComplete 4800001).wellFormed = false ∧
    (Instr.replyStart 20000).wellFormed = true ∧ (Instr.replyStart 19999).wellFormed = false ∧
    (Instr.replyStart 400001).wellFormed = false := by decide +kernel

theorem test_wf_unknown_kind :
    (Instr.unknownKind 0 0x1D#8).wellFormed = true ∧ (Instr.unknownKind 0 0x1C#8).wellFormed = false ∧
    (Instr.unknownKind 0 0x00#8).wellFormed = true := by decide +kernel

theorem test_wf_samples :
    (Instr.filterClockTick
      [⟨0, .scale, true⟩, ⟨0, .tramp, false⟩, ⟨1, .scale, false⟩, ⟨1, .tramp, false⟩, ⟨2, .scale, false⟩,
        ⟨2, .tramp, false⟩, ⟨3, .scale, false⟩, ⟨3, .tramp, false⟩]).wellFormed = true ∧
    (Instr.filterClockTick [⟨0, .scale, true⟩]).wellFormed = false ∧
    (Instr.filterClockTick (List.replicate 8 ⟨0, .scale, true⟩)).wellFormed = false := by decide +kernel

/-! ## Figures of the spec's worked cases -/

/-- R169: the CRC of the nine bytes 31h to 39h is 29B1h. -/
theorem test_crc_of_the_nine_bytes :
    crc16 [0x31, 0x32, 0x33, 0x34, 0x35, 0x36, 0x37, 0x38, 0x39] = 0x29B1#16 := by decide +kernel

/-- Chapter 2, "A setting move computed end to end": G 18,000, W 1,054, P_t 38,546, width 460 ms. -/
theorem test_setting_move_computed_end_to_end :
    geometricCss 40000 3072 38500 = 18000 ∧ wearEstimate 8000 1240000 85 = 1054 ∧
    targetStroke 3072 18500 1054 = 1454 ∧ fixPoint limitsDefault 3072 40000 1054 18500 = ⟨18500, 38546, false⟩ ∧
    pulseWidth gapTuningDefault 38546 38500 = 460 ∧ geometricCss 40000 3072 38545 = 17460 ∧
    wearEstimate 8000 1243000 85 = 1056 := by decide +kernel

/-- Chapter 2, "Limits at work". -/
theorem test_limits_at_work :
    fixPoint limitsDefault 3072 40000 0 8000 = ⟨10000, 39167, false⟩ ∧
    fixPoint { limitsDefault with pMax := 39800 } 3072 40000 12000 10000 = ⟨10000, 39800, true⟩ ∧
    fixPoint { limitsDefault with pMax := 39800 } 3072 40000 8000 10000 = ⟨10000, 39800, true⟩ ∧
    fixPoint { limitsDefault with pMin := 500 } 3072 3000 0 50000 = ⟨50000, 500, true⟩ ∧
    geometricCss 40000 3072 40010 = 0 := by decide +kernel

/-- Chapter 2, "Retarget while wear has grown". -/
theorem test_retarget_while_wear_has_grown :
    (fixPoint limitsDefault 3072 41200 1800 20000).pt = 39683 ∧
    wearEstimate 8000 2005000 90 = 1804 ∧ (fixPoint limitsDefault 3072 41200 1804 19000).pt = 39767 := by decide +kernel

/-- Chapter 6, "Worked calibration": Wm 1,080, R_m 87, R 86, and the BACKOFF target 38,548. -/
theorem test_worked_calibration :
    measuredWear 3072 40000 40090 = 1080 ∧ measuredRate 1080 1240000 = 87 ∧ blendedRate 85 87 = 86 ∧
    (fixPoint limitsDefault 3072 40090 0 18500).pt = 38548 := by decide +kernel

/-- Chapter 1: the level of an echo time of 5,000 µs, and the power readings of the worked sequence. -/
theorem test_level_and_power_readings :
    levelOfEcho 2400 5000 = 1542 ∧ levelOfEcho 2400 14000 = 0 ∧ powerOfPeriod 50 250 = 2000 ∧
    powerOfPeriod 50 240 = 2083 ∧ powerOfPeriod 50 300000 = 1 ∧ powerOfPeriod 1000 1 = 65535 := by decide +kernel

/-- Chapter 7, "One control step": Δ_raw -4,992 gives -20; and the workings of the restart: 72.5 rounds to 73, above the slew. -/
theorem test_one_control_step :
    autoChange feedTuningDefault 258 300 = -20 ∧ changedDemand feedTuningDefault 620 (-20) = 600 ∧
    divAway256 18560 = 73 ∧ divAway256 (-4992) = -20 ∧ autoChange feedTuningDefault 210 200 = 40 ∧
    reasonedChange feedTuningDefault true false 40 = 0 ∧ reasonedChange feedTuningDefault false true 40 = -40 := by
  decide +kernel

/-- Chapter 7: the periods of the rates 600, 640, 100 and 1,000. -/
theorem test_feeder_periods :
    feederPeriod feedTuningDefault 600 = 329 ∧ feederPeriod feedTuningDefault 640 = 309 ∧
    feederPeriod feedTuningDefault 100 = 1695 ∧ feederPeriod feedTuningDefault 1000 = 200 := by decide +kernel

/-- R186: a delivery from 99,995 to 100,005 kg crosses a checkpoint, and so does one that reaches 200,000 kg. -/
theorem test_wear_checkpoints :
    crossesCheckpoint 100000 99995 100005 = true ∧ crossesCheckpoint 100000 199990 200000 = true ∧
    crossesCheckpoint 100000 199980 199990 = false ∧ crossesCheckpoint 0 99995 100005 = false := by decide +kernel

/-! ## States for the steps and witnesses -/

/-- A device that runs and hears frames at address 7, its panel streaming, with one station's state given for station 1. -/
def demo (st : Station) : State :=
  { State.reset with
    clock := 80000000
    phase := .running
    stations := (Quad.all (stationFresh stationRecordDefault)).set 1 st
    link := { linkFresh with addr := 7, rx := .listen } }

/-- The record of the worked cases: Z 40,000 valid, M_cal 1,240,000 kg, R 85. -/
def workedRecord : StationRecord :=
  { stationRecordDefault with z := 40000, zValid := true, mCal := 1240000, r := 85 }

/-- A station of the worked cases, IDLE with its feeder stopped, at P = 38,500. -/
def idleSt : Station :=
  { stationFresh workedRecord with
    pos := { positionChannelFresh with p := 38500, valid := true, seen := true }
    gap := { gapChannelFresh workedRecord with state := .idle } }

/-- The same station with another gap channel. -/
def withGap (f : GapChannel → GapChannel) : Station := { idleSt with gap := f idleSt.gap }

/-- The move of the worked sequence of chapter 4, in SETTLE toward 38,546. -/
def workedMove (phase : MovePhase) : Move :=
  { kind := .setting, origin := some .link, tag := some 21, eff := some 18500, pt := some 38546, strokeClamped := false
    phase := phase, dir := none, pBefore := none, pulses := 0, noProgress := 0, pendingSuspend := false, dwell := none
    loadWaited := 0 }

/-- MOVING with a move in flight. -/
def moving (m : Move) : Station := withGap fun g => { g with state := .moving, move := some m }

/-- The state a command leads to. -/
def after (c : Instr) (s : State) : State :=
  match exec c s with
  | .next t => t
  | .fault _ => s
  | .refused _ => s

theorem demo_serves (st : Station) : (demo st).Serving 1 := ⟨rfl, by show setHas 0x0F#8 1 = true; decide⟩

theorem demo_hears (st : Station) : (demo st).Hearing := ⟨rfl, rfl, by show (7 : Nat) ≠ 0; decide⟩

theorem demo_hearsFor (st : Station) : (demo st).HearsFor 1 := ⟨demo_hears st, (demo_serves st).2⟩

/-! ## Steps of the worked cases -/

/-- R10's table: a period of 240 µs at E_p 50 gives 2,083; the time of the edge is kept in whole µs (R9). -/
theorem test_power_period :
    let st := { idleSt with power := { powerChannelFresh with openPeriod := true, lastEdge := 2000000 } }
    ((after (.powerPulse 9639 1) (demo st)).st 1).power =
      ⟨2083, true, true, 2000240, some 160009639⟩ := by decide +kernel

/-- SET GAP APPEND 18,500 in IDLE: MOVING in SETTLE toward 38,546, the settle timer at its request plus 800 ms (chapter 4). -/
theorem test_append_activates :
    ((after (.setGapAppend 0 1 18500 21) (demo idleSt)).st 1).gap.move = some (workedMove (.settle 112000000)) := by
  decide +kernel

/-- At the first settle expiry: CLOSE, 460 ms, one pulse, P_before 38,500, the CLOSE valve active (chapter 4). -/
theorem test_first_settle_gives_closing_pulse :
    ((after (.settleExpiry 1) (demo (moving (workedMove (.settle 112000000))))).st 1).gap.move =
      some { workedMove (.pulse 112000000 460) with dir := some .closing, pBefore := some 38500, pulses := 1 } ∧
    ((after (.settleExpiry 1) (demo (moving (workedMove (.settle 112000000))))).stationPins 1).closeValve = true := by
  decide +kernel

/-- The move ends COMPLETE at 38,545 with two pulses, MOVE END raised and the standing target 18,500 (chapter 4). -/
theorem test_last_settle_completes :
    let st := moving { workedMove (.settle 112000000) with
      dir := some .closing, pBefore := some 38531, pulses := 2 }
    let t := after (.settleExpiry 1) (demo { st with pos := { st.pos with p := 38545 } })
    (t.st 1).gap.lastMove = some ⟨.complete, .setting, some .link, some 21, some 18500, some 38545, 2, false⟩ ∧
    (t.st 1).gap.state = .idle ∧ (t.st 1).gap.standing = some 18500 ∧ t.raised = 0x100#36 := by decide +kernel

/-- Chapter 7: at station 1 in AUTO the demand goes from 620 to 600 and the pending period becomes 329 µs. -/
theorem test_control_step_of_the_worked_case :
    let f := { feedRegulatorFresh feedTuningDefault with
      mode := .auto, demand := 620, output := 620, prevError := some 300, controlTimer := some 80000000
      wave := some ⟨true, 318, none, 80004000⟩ }
    let t := after (.controlInterval 1) (demo { idleSt with
      feed := f, level := { levelChannelFresh with last := some 1542 }, power := { powerChannelFresh with reading := 2083 } })
    (t.st 1).feed.output = 600 ∧ (t.st 1).feed.prevError = some 258 ∧
    (t.st 1).feed.wave = some ⟨true, 318, some 329, 80004000⟩ := by decide +kernel

/-- Chapter 6: contact at 40,090 sets Z, clears M_cal and W, blends R to 86 and requests the write. -/
theorem test_contact_of_the_worked_calibration :
    let m : Move := { workedMove (.settle 80000000) with
      kind := .seek, origin := none, tag := none, eff := none, pt := none, dir := some .closing
      pBefore := some 40090, pulses := 17, noProgress := 1 }
    let st := withGap fun g => { g with
      state := .calibrating, standing := some 18500, move := some m
      calibration := some ⟨.seek, 38546, true, none, none, 17, none⟩ }
    let t := after (.seekSettleExpiry 1) (demo { st with
      record := { workedRecord with calNumber := 11 }, pos := { st.pos with p := 40090 } })
    (t.st 1).record.z = 40090 ∧ (t.st 1).record.r = 86 ∧ (t.st 1).record.mCal = 0 ∧ (t.st 1).gap.w = 0 ∧
    (t.st 1).record.history = [⟨12, some 40000, 40090, some 1080, 1240000, 1054, 86, .normal⟩] ∧
    (t.st 1).gap.move.map Move.pt = some (some 38548) := by decide +kernel

/-- Chapter 11, "Example frame". -/
theorem test_example_panel_frame :
    let s := demo { idleSt with feed := { feedRegulatorFresh feedTuningDefault with output := 100 } }
    let faulted := withGap fun g => { g with state := .faulted }
    ({ s with
        device := { deviceRecordDefault with presence := 0x07#8, panelSet := .attention }
        raised := sourceBit 8 ||| sourceBit 33
        masks := sourceBit 33
        stations := (s.stations.set 0 (moving (workedMove (.settle 0)))).set 2
          { faulted with level := { levelChannelFresh with lost := true } } } : State).frameBits =
      [false, true, false, false, true, false, true, false, true, false, true, false] ++
      [false, false, false, true, true, true, false, false, false, false, false, false] := by decide +kernel

/-- A HALT 255 broadcast, character by character: A5h, its address 0, kind 11h, length 1, 255 and the CRC; the device takes it and
stays in LISTEN without a reply (R167 to R172). -/
theorem test_broadcast_halt_by_characters :
    let bytes := [0x00#8, 0x11#8, 0x01#8, 0xFF#8]
    let t := ([0xA5#8] ++ bytes ++ crcBytes bytes).foldl (fun s c => after (.characterReceived 3472 c true false) s)
      (demo (moving (workedMove (.settle 112000000))))
    (t.st 1).gap.state = .idle ∧ (t.st 1).gap.lastMove.map LastMove.result = some .halted ∧ t.link.rx = .listen ∧
    t.link.errors = 0 := by decide +kernel

/-! ## Parts of the witnesses -/

def settling : Move := workedMove (.settle 80000000)

def pulsing : Move :=
  { workedMove (.pulse 80000000 460) with dir := some .closing, pBefore := some 38500, pulses := 1 }

def loadWaiting : Move := workedMove (.waitLoad 80000000 (some 2480000000))

def dwelling : Move := { workedMove (.settle 100000000) with dwell := some 90000000 }

def seekingMove : Move :=
  { settling with kind := .seek, origin := none, tag := none, eff := none, pt := none, dir := some .closing }

/-- A SEEK move after `n` pulses, the last from `b`, with a no-progress run of `k`. -/
def seekPulsed (b n k : Nat) : Move := { seekingMove with pBefore := some b, pulses := n, noProgress := k }

/-- The worked move after a pulse. -/
def pulsed : Move := { settling with dir := some .closing, pBefore := some 38541 }

/-- A restore toward 38,546. -/
def restoring : Move := { settling with kind := .restore, origin := none, tag := none, eff := none }

/-- A BACKOFF move toward 38,546 after three pulses. -/
def backing : Move := { restoring with kind := .backoff, pulses := 3 }

def backingOff : Calibration := ⟨.backoff, 38546, true, none, none, 17, some 40090⟩

/-- The samples of a tick at which every input has one level. -/
def everyFilter (level : Bool) : List FilterSample :=
  stationsInOrder.flatMap fun k => [⟨k, .scale, level⟩, ⟨k, .tramp, level⟩]

def draining : Calibration := ⟨.drain, 38500, true, some 7280000000, some 480000000, 0, none⟩

def seeking : Calibration := ⟨.seek, 38546, true, none, none, 17, none⟩

def openLot : OpenLot := ⟨5, 50000, some 18500, none, 20000, 8000, 4, 8⟩

def entry : SettingEntry := ⟨19000, 19000, false, .link, some 1, none⟩

/-- A station that feeds at 620 under a mode and a power reading. -/
def feeding (mode : FeedMode) (power : Nat) : Station :=
  { idleSt with
    power := { powerChannelFresh with reading := power }
    feed :=
      { feedRegulatorFresh feedTuningDefault with
        mode := mode, demand := 620, output := 620, controlTimer := some 90000000
        wave := some ⟨true, 318, none, 80004000⟩ } }

/-! ## Witnesses: for each statement with hypotheses, a state and operands that meet them, at the ends of their ranges -/

/-- Whether a gap channel is whole, as a test. -/
def wholeCheck (g : GapChannel) : Bool :=
  g.calibration.isSome == (g.state == .calibrating) &&
    (match g.holdsKind, g.move with
      | some ks, some m => ks.contains m.kind && m.isParked == (g.state == .suspended) &&
          (!m.waits || m.kind != .seek && m.kind != .backoff)
      | none, none => true
      | _, _ => false) &&
    (match g.context with
      | some c => (g.state == .relieved || g.state == .restoring) && (c.move.kind == .setting || c.move.kind == .trim)
      | none => true) &&
    (!g.holdTimer.isSome || g.state == .relieved) && g.openOut == g.drives .opening && g.closeOut == g.drives .closing

theorem whole_of_check (g : GapChannel) (h : wholeCheck g = true) : g.Whole := by
  unfold wholeCheck at h
  simp only [Bool.and_eq_true, beq_iff_eq] at h
  obtain ⟨⟨⟨⟨⟨h1, h2⟩, h3⟩, h4⟩, h5⟩, h6⟩ := h
  refine ⟨by rw [h1], ?_, ?_, ?_, h5, h6⟩
  · revert h2
    cases g.holdsKind <;> cases g.move <;> simp <;> grind
  · intro c hc
    rw [hc] at h3
    simpa [Bool.or_eq_true] using h3
  · intro ht
    simpa [ht] using h4

/-- W after one more accepted scale pulse. -/
def wornBy (r : StationRecord) : Nat :=
  wearEstimate r.limits.wMax (min 4294967295 (r.mCal + r.feedTuning.scaleMass)) r.r

/-- E at a position after one more accepted scale pulse. -/
def cssAfter (st : Station) (p : Nat) : Nat :=
  geometricCss st.record.z st.record.gapTuning.k p + wornBy st.record

/-- Whether the output law holds at a station, as a test. -/
def feedCheck (st : Station) : Bool :=
  decide (st.record.feedTuning.rateMin ≤ st.feed.demand) && decide (st.feed.demand ≤ st.record.feedTuning.rateMax) &&
    st.feed.output == (if st.feed.stopped then 0 else st.feed.demand) && st.feed.wave.isSome == decide (0 < st.feed.output)

theorem feedHolds_of_check (st : Station) (h : feedCheck st = true) : st.FeedHolds := by
  simp only [feedCheck, Bool.and_eq_true, decide_eq_true_eq, beq_iff_eq] at h
  exact ⟨h.1.1.1, h.1.1.2, h.1.2, h.2⟩

/-- Whether every station's gap channel is whole, its output law holds and its reasons agree, as a test. -/
def restedCheck (s : State) : Bool :=
  stationsInOrder.all fun i => wholeCheck (s.st i).gap && feedCheck (s.st i) && decide
    (gapStops (s.st i).gap (s.st i).feed.stops = (s.st i).feed.stops ∧
      (s.st i).feed.gapMove = (s.st i).gap.holdsMove ∧ (s.st i).feed.gapLoadWait = (s.st i).gap.waitsLoad)

theorem mem_stationsInOrder (i : StationId) : i ∈ stationsInOrder := by revert i; decide

theorem rested {n : Nat} (s : State) (h : restedCheck s = true) (i : StationId) (_ : s.Names n i) :
    (s.st i).gap.Whole ∧ (s.st i).FeedHolds ∧ (s.st i).ReasonsAgree := by
  have k := List.all_eq_true.mp h i (mem_stationsInOrder i)
  simp only [Bool.and_eq_true, decide_eq_true_eq] at k
  exact ⟨whole_of_check _ k.1.1, feedHolds_of_check _ k.1.2, k.2⟩

/-- Whether every station's output law holds and DOWNSTREAM is not posted, as a test. -/
def fedCheck (s : State) : Bool :=
  stationsInOrder.all fun i => feedCheck (s.st i) && !(s.st i).feed.stops.downstream

theorem fed {n : Nat} (s : State) (h : fedCheck s = true) (i : StationId) (_ : s.Names n i) :
    (s.st i).FeedHolds ∧ (s.st i).feed.stops.downstream = false := by
  have k := List.all_eq_true.mp h i (mem_stationsInOrder i)
  simp only [Bool.and_eq_true, Bool.not_eq_true'] at k
  exact ⟨feedHolds_of_check _ k.1, k.2⟩

/-- For StepRunsFrontCommand. -/
theorem test_witness_step_idle : ∃ (s : State),
    s.pending = [] :=
  ⟨State.reset, by decide +kernel⟩

/-- For SupplyCutsWrite. -/
theorem test_witness_reset_input : ∃ (s : State),
    s.phase ≠ .off :=
  ⟨demo idleSt, by decide +kernel⟩

/-- For SupplyCutsWrite. -/
theorem test_witness_reset_release : ∃ (s : State),
    s.phase = .reset :=
  ⟨{ demo idleSt with phase := .reset }, by decide +kernel⟩

/-- For StartUpEnds. -/
theorem test_witness_start_up_ends : ∃ (s : State),
    s.phase = .startUp :=
  ⟨State.reset, by decide +kernel⟩

/-- For InterrogationOpensCapture. -/
theorem test_witness_interrogation : ∃ (s : State) (i : StationId),
    s.Serving i ∧ s.epoch ≤ s.clock :=
  ⟨demo idleSt, 1, demo_serves _, by decide +kernel⟩

/-- For InterrogationOpensCapture. -/
theorem test_witness_leading_edge_at_1_ms : ∃ (s : State) (i : StationId) (dt since : Ticks),
    s.Serving i ∧ (s.st i).pos.capture = .waiting since ∧ s.clock + dt = since + 40000 :=
  ⟨demo { idleSt with pos := { idleSt.pos with capture := .waiting 80000000, run := 0 } }, 1, 40000, 80000000,
   demo_serves _, by decide +kernel⟩

/-- For InterrogationOpensCapture. -/
theorem test_witness_leading_edge_after_1_ms : ∃ (s : State) (i : StationId) (dt since : Ticks),
    s.Serving i ∧ (s.st i).pos.capture = .waiting since ∧ s.clock + dt = since + 40001 :=
  ⟨demo { idleSt with pos := { idleSt.pos with capture := .waiting 80000000, run := 0 } }, 1, 40001, 80000000,
   demo_serves _, by decide +kernel⟩

/-- For ValidWidthSetsPosition. -/
theorem test_witness_width_of_w0 : ∃ (s : State) (i : StationId) (dt since : Ticks),
    s.Serving i ∧ (s.st i).pos.capture = .counting since ∧ (s.st i).record.gapTuning.w0 ≤ s.clock + dt - since ∧
    s.clock + dt - since ≤ (s.st i).record.gapTuning.w0 + 65535 ∧ s.clock + dt - since = 2000 :=
  ⟨demo { idleSt with pos := { idleSt.pos with capture := .counting 80000000, run := 0 } }, 1, 2000, 80000000,
   demo_serves _, by decide +kernel⟩

/-- For ValidWidthSetsPosition. -/
theorem test_witness_greatest_width : ∃ (s : State) (i : StationId) (dt since : Ticks),
    s.Serving i ∧ (s.st i).pos.capture = .counting since ∧ (s.st i).record.gapTuning.w0 ≤ s.clock + dt - since ∧
    s.clock + dt - since ≤ (s.st i).record.gapTuning.w0 + 65535 ∧ s.clock + dt - since = 67535 :=
  ⟨demo { idleSt with pos := { idleSt.pos with capture := .counting 80000000, run := 0 } }, 1, 67535, 80000000,
   demo_serves _, by decide +kernel⟩

/-- For InvalidSamplesCounted. -/
theorem test_witness_no_return : ∃ (s : State) (i : StationId) (since : Ticks),
    s.Serving i ∧ ((s.st i).pos.run ≠ 2 ∨ (s.st i).gap.dryRun = true) ∧ (s.st i).pos.capture = .waiting since :=
  ⟨demo { idleSt with pos := { idleSt.pos with capture := .waiting 80000000, run := 1 } }, 1, 80000000,
   demo_serves _, by decide +kernel⟩

/-- For InvalidSamplesCounted. -/
theorem test_witness_no_return_in_dry_run : ∃ (s : State) (i : StationId) (since : Ticks),
    s.Serving i ∧ ((s.st i).pos.run ≠ 2 ∨ (s.st i).gap.dryRun = true) ∧ (s.st i).pos.run = 2 ∧
    (s.st i).pos.capture = .waiting since :=
  ⟨demo { (withGap fun g => { g with dryRun := true, sim := some 38500 }) with
      pos := { idleSt.pos with capture := .waiting 80000000, run := 2 } },
   1, 80000000, demo_serves _, by decide +kernel⟩

/-- For InvalidSamplesCounted. -/
theorem test_witness_width_below_w0 : ∃ (s : State) (i : StationId) (dt since : Ticks),
    s.Serving i ∧ ((s.st i).pos.run ≠ 2 ∨ (s.st i).gap.dryRun = true) ∧ (s.st i).pos.capture = .counting since ∧
    s.clock + dt - since < (s.st i).record.gapTuning.w0 :=
  ⟨demo { idleSt with pos := { idleSt.pos with capture := .counting 80000000, run := 3 } }, 1, 1999, 80000000,
   demo_serves _, by decide +kernel⟩

/-- For ThirdInvalidSampleFaults. -/
theorem test_witness_third_invalid_sample : ∃ (s : State) (i : StationId) (since : Ticks),
    s.Serving i ∧ (s.st i).gap.Whole ∧ (s.st i).FeedHolds ∧ (s.st i).pos.run = 2 ∧ (s.st i).gap.dryRun = false ∧
    (s.st i).pos.capture = .waiting since ∧ (s.st i).gap.state = .moving :=
  ⟨demo { (moving settling) with pos := { idleSt.pos with capture := .waiting 80000000, run := 2 } }, 1, 80000000,
   demo_serves _, whole_of_check _ rfl, feedHolds_of_check _ rfl, by decide +kernel⟩

/-- For ThirdInvalidSampleFaults. -/
theorem test_witness_third_width_too_long : ∃ (s : State) (i : StationId) (since : Ticks),
    s.Serving i ∧ (s.st i).gap.Whole ∧ (s.st i).FeedHolds ∧ (s.st i).pos.run = 2 ∧ (s.st i).gap.dryRun = false ∧
    (s.st i).pos.capture = .counting since ∧ (s.st i).gap.state = .isolated :=
  ⟨demo { (withGap fun g => { g with state := .isolated }) with
      pos := { idleSt.pos with capture := .counting 80000000, run := 2 } },
   1, 80000000, demo_serves _, whole_of_check _ rfl, feedHolds_of_check _ rfl, by decide +kernel⟩

/-- For ThirdInvalidSampleFaults. -/
theorem test_witness_third_width_below_w0 : ∃ (s : State) (i : StationId) (dt since : Ticks),
    s.Serving i ∧ (s.st i).gap.Whole ∧ (s.st i).FeedHolds ∧ (s.st i).pos.run = 2 ∧ (s.st i).gap.dryRun = false ∧
    (s.st i).pos.capture = .counting since ∧ s.clock + dt - since < (s.st i).record.gapTuning.w0 ∧
    (s.st i).gap.state = .faulted :=
  ⟨demo { (withGap fun g => { g with state := .faulted }) with
      pos := { idleSt.pos with capture := .counting 80000000, run := 2 } },
   1, 1999, 80000000, demo_serves _, whole_of_check _ rfl, feedHolds_of_check _ rfl, by decide +kernel⟩

/-- For EchoGivesLevel. -/
theorem test_witness_echo_trigger : ∃ (s : State) (i : StationId),
    s.Serving i ∧ s.epoch ≤ s.clock :=
  ⟨demo idleSt, 1, demo_serves _, by decide +kernel⟩

/-- For EchoGivesLevel. -/
theorem test_witness_shortest_echo : ∃ (s : State) (i : StationId) (dt since : Ticks),
    s.Serving i ∧ (s.st i).level.window = some since ∧ s.clock + dt < since + 2000000 ∧
    600 ≤ (s.clock + dt - since) / 40 ∧ (s.clock + dt - since) / 40 ≤ 40000 ∧ (s.st i).level.lost = false :=
  ⟨demo { idleSt with level := { levelChannelFresh with window := some 80000000 } }, 1, 24000, 80000000,
   demo_serves _, by decide +kernel⟩

/-- For EchoGivesLevel. -/
theorem test_witness_longest_echo_regains : ∃ (s : State) (i : StationId) (dt since : Ticks),
    s.Serving i ∧ (s.st i).level.window = some since ∧ s.clock + dt < since + 2000000 ∧
    600 ≤ (s.clock + dt - since) / 40 ∧ (s.clock + dt - since) / 40 ≤ 40000 ∧ (s.st i).level.lost = true :=
  ⟨demo { idleSt with level := { levelChannelFresh with window := some 80000000, lost := true, run := 3 } }, 1,
   1600000, 80000000, demo_serves _, by decide +kernel⟩

/-- For EchoGivesLevel. -/
theorem test_witness_echo_too_short : ∃ (s : State) (i : StationId) (dt since : Ticks),
    s.Serving i ∧ (s.st i).level.window = some since ∧ s.clock + dt < since + 2000000 ∧
    (s.clock + dt - since) / 40 = 599 ∧ (s.st i).level.run = 2 :=
  ⟨demo { idleSt with level := { levelChannelFresh with window := some 80000000, run := 2 } }, 1, 23999, 80000000,
   demo_serves _, by decide +kernel⟩

/-- For EchoGivesLevel. -/
theorem test_witness_echo_too_long : ∃ (s : State) (i : StationId) (dt since : Ticks),
    s.Serving i ∧ (s.st i).level.window = some since ∧ s.clock + dt < since + 2000000 ∧
    (s.clock + dt - since) / 40 = 40001 ∧ (s.st i).level.run = 0 :=
  ⟨demo { idleSt with level := { levelChannelFresh with window := some 80000000 } }, 1, 1600040, 80000000,
   demo_serves _, by decide +kernel⟩

/-- For EchoGivesLevel. -/
theorem test_witness_echo_while_draining : ∃ (s : State) (i : StationId) (dt since : Ticks) (c : Calibration),
    s.Serving i ∧ (s.st i).level.window = some since ∧ s.clock + dt < since + 2000000 ∧
    600 ≤ (s.clock + dt - since) / 40 ∧ (s.clock + dt - since) / 40 ≤ 40000 ∧ (s.st i).gap.calibration = some c ∧
    c.phase = .drain ∧ c.quietTimer = none :=
  ⟨demo { (withGap fun g => { g with
      state := .calibrating, calibration := some { draining with quietTimer := none } }) with
      level := { levelChannelFresh with window := some 80000000 } },
   1, 560000, 80000000, { draining with quietTimer := none }, demo_serves _, by decide +kernel⟩

/-- For EchoGivesLevel. -/
theorem test_witness_edge_at_window_end : ∃ (s : State) (i : StationId) (dt since : Ticks),
    s.Serving i ∧ (s.st i).level.window = some since ∧ s.clock + dt = since + 2000000 :=
  ⟨demo { idleSt with level := { levelChannelFresh with window := some 80000000 } }, 1, 2000000, 80000000,
   demo_serves _, by decide +kernel⟩

/-- For LostLevelStopsFeed. -/
theorem test_witness_echo_window_ends : ∃ (s : State) (i : StationId) (since : Ticks),
    s.Serving i ∧ (s.st i).level.window = some since ∧ (s.st i).level.run = 1 :=
  ⟨demo { idleSt with level := { levelChannelFresh with window := some 80000000, run := 1 } }, 1, 80000000,
   demo_serves _, by decide +kernel⟩

/-- For LostLevelStopsFeed. -/
theorem test_witness_third_echo_missed : ∃ (s : State) (i : StationId) (since : Ticks),
    s.Serving i ∧ (s.st i).level.window = some since ∧ (s.st i).level.run = 2 :=
  ⟨demo { idleSt with level := { levelChannelFresh with window := some 80000000, run := 2 } }, 1, 80000000,
   demo_serves _, by decide +kernel⟩

/-- For LostLevelStopsFeed. -/
theorem test_witness_level_lost_timeout : ∃ (s : State) (i : StationId) (e : Ticks),
    s.Serving i ∧ (s.st i).FeedHolds ∧ (s.st i).level.lostTimer = some e ∧ (s.st i).level.lost = true :=
  ⟨demo { idleSt with level := { levelChannelFresh with lost := true, run := 3, lostTimer := some 90000000 } }, 1,
   90000000, demo_serves _, feedHolds_of_check _ rfl, by decide +kernel⟩

/-- For PowerPulseSetsReading. -/
theorem test_witness_power_period : ∃ (s : State) (i : StationId),
    s.Serving i ∧ (s.st i).power.openPeriod = true :=
  ⟨demo { idleSt with power := { powerChannelFresh with openPeriod := true, lastEdge := 2000000 } }, 1,
   demo_serves _, by decide +kernel⟩

/-- For PowerPulseSetsReading. -/
theorem test_witness_power_period_while_draining : ∃ (s : State) (i : StationId) (c : Calibration),
    s.Serving i ∧ (s.st i).power.openPeriod = true ∧ (s.st i).gap.calibration = some c ∧ c.phase = .drain :=
  ⟨demo { (withGap fun g => { g with state := .calibrating, calibration := some draining }) with
      power := { powerChannelFresh with openPeriod := true, lastEdge := 2000000 } },
   1, draining, demo_serves _, by decide +kernel⟩

/-- For PowerPulseSetsReading. -/
theorem test_witness_load_wait_at_close_power :
    ∃ (s : State) (i : StationId) (dt : Ticks) (m : Move) (p q since : Nat) (timer : Option Ticks),
    s.Serving i ∧ (s.st i).power.openPeriod = true ∧ (s.st i).gap.move = some m ∧ m.pt = some q ∧
    (s.st i).posInUse = some p ∧ m.phase = .waitLoad since timer ∧
    (s.st i).record.feedTuning.ep * 10000 / ((s.clock + dt - (s.st i).power.lastEdge * 40) / 40) ≤ (s.st i).record.gapTuning.closePower ∧
    (s.st i).record.gapTuning.d < apart q p :=
  ⟨demo { (moving loadWaiting) with
      pos := { idleSt.pos with p := 38541 }
      power := { powerChannelFresh with openPeriod := true, lastEdge := 2000000 } },
   1, 11120, loadWaiting, 38541, 38546, 80000000, some 2480000000, demo_serves _, by decide +kernel⟩

/-- For PowerPulseSetsReading. -/
theorem test_witness_load_wait_above_close_power :
    ∃ (s : State) (i : StationId) (dt : Ticks) (m : Move) (p q since : Nat) (timer : Option Ticks),
    s.Serving i ∧ (s.st i).power.openPeriod = true ∧ (s.st i).gap.move = some m ∧ m.pt = some q ∧
    (s.st i).posInUse = some p ∧ m.phase = .waitLoad since timer ∧
    (s.st i).record.gapTuning.closePower < (s.st i).record.feedTuning.ep * 10000 / ((s.clock + dt - (s.st i).power.lastEdge * 40) / 40) :=
  ⟨demo { (moving loadWaiting) with
      pos := { idleSt.pos with p := 38541 }
      power := { powerChannelFresh with openPeriod := true, lastEdge := 2000000 } },
   1, 11080, loadWaiting, 38541, 38546, 80000000, some 2480000000, demo_serves _, by decide +kernel⟩

/-- For PowerPulseSetsReading. -/
theorem test_witness_load_wait_within_deadband :
    ∃ (s : State) (i : StationId) (dt : Ticks) (m : Move) (p q since : Nat) (timer : Option Ticks),
    s.Serving i ∧ (s.st i).power.openPeriod = true ∧ (s.st i).gap.move = some m ∧ m.pt = some q ∧
    (s.st i).posInUse = some p ∧ m.phase = .waitLoad since timer ∧
    (s.st i).record.feedTuning.ep * 10000 / ((s.clock + dt - (s.st i).power.lastEdge * 40) / 40) ≤ (s.st i).record.gapTuning.closePower ∧
    apart q p = (s.st i).record.gapTuning.d :=
  ⟨demo { (moving loadWaiting) with
      pos := { idleSt.pos with p := 38550 }
      power := { powerChannelFresh with openPeriod := true, lastEdge := 2000000 } },
   1, 11120, loadWaiting, 38550, 38546, 80000000, some 2480000000, demo_serves _, by decide +kernel⟩

/-- For PowerPulseSetsReading. -/
theorem test_witness_first_power_pulse : ∃ (s : State) (i : StationId),
    s.Serving i ∧ (s.st i).power.openPeriod = false :=
  ⟨demo idleSt, 1, demo_serves _, by decide +kernel⟩

/-- For PowerPulseSetsReading, ResetStationRestores, ReadingAnswersRecords and every request that needs no more. -/
theorem test_witness_hears_for : ∃ (s : State) (i : StationId),
    s.HearsFor i :=
  ⟨demo idleSt, 1, demo_hearsFor _⟩

/-- For StaleReadingIsZero. -/
theorem test_witness_stale_while_waiting_for_load :
    ∃ (s : State) (i : StationId) (e : Ticks) (m : Move) (p q since : Nat) (timer : Option Ticks),
    s.Serving i ∧ (s.st i).power.staleTimer = some e ∧ (s.st i).gap.move = some m ∧ m.pt = some q ∧
    (s.st i).posInUse = some p ∧ m.phase = .waitLoad since timer ∧ (s.st i).record.gapTuning.d < apart q p :=
  ⟨demo { (moving loadWaiting) with
      pos := { idleSt.pos with p := 38541 }
      power := { powerChannelFresh with reading := 1920, staleTimer := some 90000000 } },
   1, 90000000, loadWaiting, 38541, 38546, 80000000, some 2480000000, demo_serves _, by decide +kernel⟩

/-- For ScalePulseDelivers. -/
theorem test_witness_scale_pulse : ∃ (s : State) (i : StationId) (run : Nat),
    s.Serving i ∧ (s.st i).scale = .defined false run ∧
    (s.st i).lots.mass + (s.st i).record.feedTuning.scaleMass ≤ 281474976710655 :=
  ⟨demo { idleSt with scale := .defined false 2 }, 1, 2, demo_serves _, by decide +kernel⟩

/-- For ScalePulseDelivers. -/
theorem test_witness_scale_pulse_beyond_range : ∃ (s : State) (i : StationId) (run : Nat),
    s.Serving i ∧ (s.st i).scale = .defined false run ∧
    (s.st i).lots.mass + (s.st i).record.feedTuning.scaleMass > 281474976710655 :=
  ⟨demo { idleSt with scale := .defined false 2, lots := { idleSt.lots with mass := 281474976710655 } }, 1, 2,
   demo_serves _, by decide +kernel⟩

/-- For ScalePulseDelivers. -/
theorem test_witness_scale_pulse_reaches_wear_limit : ∃ (s : State) (i : StationId) (run : Nat),
    s.Serving i ∧ (s.st i).scale = .defined false run ∧ (s.st i).gap.w ≠ (s.st i).record.limits.wMax ∧
    wornBy (s.st i).record = (s.st i).record.limits.wMax :=
  ⟨demo { (withGap fun g => { g with w := 7999 }) with
      record := { workedRecord with mCal := 9411755 }, scale := .defined false 2 },
   1, 2, demo_serves _, by decide +kernel⟩

/-- For ScalePulseDelivers. -/
theorem test_witness_scale_pulse_crosses_checkpoint : ∃ (s : State) (i : StationId) (run : Nat),
    s.Serving i ∧ (s.st i).scale = .defined false run ∧
    (s.st i).record.mCal / s.device.checkpoint + 1 = ((s.st i).record.mCal + 10) / s.device.checkpoint ∧
    s.writer = .idle :=
  ⟨demo { idleSt with record := { workedRecord with mCal := 1299990 }, scale := .defined false 2 }, 1, 2,
   demo_serves _, by decide +kernel⟩

/-- For ScalePulseDelivers. -/
theorem test_witness_trim_due : ∃ (s : State) (i : StationId) (run target p : Nat),
    s.Serving i ∧ (s.st i).scale = .defined false run ∧ (s.st i).gap.state = .idle ∧ (s.st i).gap.queue = [] ∧
    (s.st i).sched.pending = false ∧ (s.st i).sched.state ≠ .running ∧ (s.st i).gap.standing = some target ∧
    (s.st i).posInUse = some p ∧ (s.st i).record.zValid = true ∧ (s.st i).gap.trimInhibit = false ∧
    cssAfter (s.st i) p = target + (s.st i).record.gapTuning.trimThreshold :=
  ⟨demo { (withGap fun g => { g with standing := some 18554 }) with scale := .defined false 2 }, 1, 2, 18554, 38500,
   demo_serves _, by decide +kernel⟩

/-- For ScalePulseDelivers. -/
theorem test_witness_trim_not_due : ∃ (s : State) (i : StationId) (run target p : Nat),
    s.Serving i ∧ (s.st i).scale = .defined false run ∧ (s.st i).gap.state = .idle ∧ (s.st i).gap.queue = [] ∧
    (s.st i).sched.pending = false ∧ (s.st i).sched.state ≠ .running ∧ (s.st i).gap.standing = some target ∧
    (s.st i).posInUse = some p ∧ (s.st i).record.zValid = true ∧ (s.st i).gap.trimInhibit = false ∧
    cssAfter (s.st i) p + 1 = target + (s.st i).record.gapTuning.trimThreshold :=
  ⟨demo { (withGap fun g => { g with standing := some 18555 }) with scale := .defined false 2 }, 1, 2, 18555, 38500,
   demo_serves _, by decide +kernel⟩

/-- For ScalePulseDelivers. -/
theorem test_witness_lot_opens_in_idle : ∃ (s : State) (i : StationId) (run w : Nat),
    s.Serving i ∧ (s.st i).dueTrim { (s.st i).gap with w := w } = none ∧ (s.st i).scale = .defined false run ∧
    w = wornBy (s.st i).record ∧ (s.st i).gap.state = .idle ∧ (s.st i).lots.lot = none :=
  ⟨demo { (withGap fun g => { g with standing := some 18555 }) with scale := .defined false 2 }, 1, 2, 1054,
   demo_serves _, by decide +kernel⟩

/-- For ScalePulseDelivers. -/
theorem test_witness_lot_below_size : ∃ (s : State) (i : StationId) (run w : Nat) (l : OpenLot),
    s.Serving i ∧ (s.st i).scale = .defined false run ∧ w = wornBy (s.st i).record ∧ (s.st i).gap.state ≠ .idle ∧
    (s.st i).lots.lot = some l ∧ l.mass + (s.st i).record.feedTuning.scaleMass + 1 = l.size :=
  ⟨demo { (moving settling) with
      scale := .defined false 2, lots := ⟨some { openLot with mass := 49989 }, 6, none, 20000, 0⟩ },
   1, 2, 1054, { openLot with mass := 49989 }, demo_serves _, by decide +kernel⟩

/-- For ScalePulseDelivers. -/
theorem test_witness_lot_at_size_advances :
    ∃ (s : State) (i : StationId) (run w : Nat) (l : OpenLot) (q : ScheduleStep),
    s.Serving i ∧ (s.st i).scale = .defined false run ∧ w = wornBy (s.st i).record ∧ (s.st i).gap.state ≠ .idle ∧
    (s.st i).lots.lot = some l ∧ l.mass + (s.st i).record.feedTuning.scaleMass = l.size ∧ s.lotQueue.length = 0 ∧
    (s.st i).sched.state = .running ∧ (s.st i).sched.mode = .auto ∧ (s.st i).gap.queue.length = 3 ∧
    (s.st i).sched.steps[(s.st i).sched.index + 1]? = some q :=
  ⟨demo { (withGap fun g => { g with state := .moving, move := some settling, queue := List.replicate 3 entry }) with
      scale := .defined false 2, lots := ⟨some { openLot with mass := 49990 }, 6, none, 20000, 0⟩
      sched := { scheduleFresh with state := .running, steps := [⟨18500, 50000⟩, ⟨20000, 50000⟩] } },
   1, 2, 1054, { openLot with mass := 49990 }, ⟨20000, 50000⟩, demo_serves _, by decide +kernel⟩

/-- For ScalePulseDelivers. -/
theorem test_witness_lot_at_size_ends_schedule : ∃ (s : State) (i : StationId) (run w : Nat) (l : OpenLot),
    s.Serving i ∧ (s.st i).scale = .defined false run ∧ w = wornBy (s.st i).record ∧ (s.st i).gap.state ≠ .idle ∧
    (s.st i).lots.lot = some l ∧ l.mass + (s.st i).record.feedTuning.scaleMass = l.size ∧ s.lotQueue.length = 16 ∧
    (s.st i).sched.state = .running ∧ (s.st i).sched.mode = .auto ∧
    (s.st i).sched.steps.length = (s.st i).sched.index + 1 ∧ (s.st i).sched.cyclic = false :=
  ⟨{ demo { (moving settling) with
      scale := .defined false 2, lots := ⟨some { openLot with mass := 49990 }, 6, none, 20000, 0⟩
      sched := { scheduleFresh with state := .running, steps := [⟨18500, 50000⟩] } } with
      lotQueue := List.replicate 16 ⟨1, 0, 0, .cut, none, none, none, 0⟩ },
   1, 2, 1054, { openLot with mass := 49990 }, ⟨rfl, by decide⟩, by decide +kernel⟩

/-- For FiltersCountSamples. -/
theorem test_witness_scale_filter_undefined : ∃ (s : State) (i : StationId) (last : Bool) (n : Nat),
    s.Serving i ∧ (s.st i).scale = .undefined last n :=
  ⟨demo { idleSt with scale := .undefined true 2 }, 1, true, 2, demo_serves _, by decide +kernel⟩

/-- For FiltersCountSamples. -/
theorem test_witness_scale_inactive : ∃ (s : State) (i : StationId) (run : Nat),
    s.Serving i ∧ (s.st i).scale = .defined true run :=
  ⟨demo { idleSt with scale := .defined true 2 }, 1, 2, demo_serves _, by decide +kernel⟩

/-- For FiltersCountSamples. -/
theorem test_witness_tick_accepts_scale_pulse : ∃ (s : State) (samples : List FilterSample) (x : FilterSample),
    s.phase = .running ∧ (Instr.filterClockTick samples).wellFormed = true ∧ x ∈ samples ∧
    s.present x.station = true ∧ x.input = .scale ∧ x.level = true ∧ (s.st x.station).scale = .defined false 2 :=
  ⟨demo { idleSt with scale := .defined false 2 }, everyFilter true, ⟨1, .scale, true⟩, by decide +kernel⟩

/-- For FiltersCountSamples. -/
theorem test_witness_tick_counts_undefined_filter : ∃ (s : State) (samples : List FilterSample) (x : FilterSample),
    s.phase = .running ∧ (Instr.filterClockTick samples).wellFormed = true ∧ x ∈ samples ∧
    s.present x.station = true ∧ x.input = .scale ∧ (s.st x.station).scale = .undefined true 2 ∧ x.level = true :=
  ⟨demo { idleSt with scale := .undefined true 2 }, everyFilter true, ⟨1, .scale, true⟩, by decide +kernel⟩

/-- For FiltersCountSamples. -/
theorem test_witness_tick_accepts_tramp_onset : ∃ (s : State) (samples : List FilterSample) (x : FilterSample),
    s.phase = .running ∧ (Instr.filterClockTick samples).wellFormed = true ∧ x ∈ samples ∧
    s.present x.station = true ∧ x.input = .tramp ∧ x.level = true ∧
    (s.st x.station).tramp = { level := false, run := 2 } ∧ (s.st x.station).gap.dryRun = false :=
  ⟨demo { idleSt with tramp := ⟨false, 2⟩ }, everyFilter true, ⟨1, .tramp, true⟩, by decide +kernel⟩

/-- For FiltersCountSamples. -/
theorem test_witness_tick_accepts_tramp_clearance : ∃ (s : State) (samples : List FilterSample) (x : FilterSample),
    s.phase = .running ∧ (Instr.filterClockTick samples).wellFormed = true ∧ x ∈ samples ∧
    s.present x.station = true ∧ x.input = .tramp ∧ x.level = false ∧
    (s.st x.station).tramp = { level := true, run := 2 } ∧ (s.st x.station).gap.dryRun = false ∧
    (s.st x.station).gap.state = .relieved :=
  ⟨demo { (withGap fun g => { g with state := .relieved }) with tramp := ⟨true, 2⟩ }, everyFilter false,
   ⟨1, .tramp, false⟩, by decide +kernel⟩

/-- For FiltersCountSamples. -/
theorem test_witness_tick_accepts_nothing : ∃ (s : State) (samples : List FilterSample),
    s.phase = .running ∧ (Instr.filterClockTick samples).wellFormed = true ∧
    (∀ j, (s.st j).tramp.run < 2 ∧
      (match (s.st j).scale with | .defined _ run => decide (run < 2) | .undefined _ _ => true) = true) :=
  ⟨demo { idleSt with scale := .defined false 1, tramp := ⟨false, 1⟩ }, everyFilter true, by decide +kernel⟩

/-- For TrampOnsetRelieves. -/
theorem test_witness_tramp_onset_in_idle : ∃ (s : State) (i : StationId),
    s.Serving i ∧ (s.st i).gap.Whole ∧ (s.st i).FeedHolds ∧ (s.st i).tramp.level = false ∧
    (s.st i).gap.dryRun = false ∧ (s.st i).gap.onsets.length + 1 < (s.st i).record.gapTuning.trampLimit ∧
    (s.st i).gap.state ≠ .isolated ∧ (s.st i).gap.state ≠ .faulted ∧ (s.st i).gap.state = .idle :=
  ⟨demo (withGap fun g => { g with onsets := [500] }), 1, demo_serves _, whole_of_check _ rfl,
   feedHolds_of_check _ rfl, by decide +kernel⟩

/-- For TrampOnsetRelieves. -/
theorem test_witness_tramp_onset_in_moving : ∃ (s : State) (i : StationId),
    s.Serving i ∧ (s.st i).gap.Whole ∧ (s.st i).FeedHolds ∧ (s.st i).tramp.level = false ∧
    (s.st i).gap.dryRun = false ∧ (s.st i).gap.onsets.length + 1 < (s.st i).record.gapTuning.trampLimit ∧
    (s.st i).gap.state ≠ .isolated ∧ (s.st i).gap.state ≠ .faulted ∧ (s.st i).gap.state = .moving :=
  ⟨demo (moving settling), 1, demo_serves _, whole_of_check _ rfl, feedHolds_of_check _ rfl, by decide +kernel⟩

/-- For TrampOnsetRelieves. -/
theorem test_witness_tramp_onset_in_suspended : ∃ (s : State) (i : StationId),
    s.Serving i ∧ (s.st i).gap.Whole ∧ (s.st i).FeedHolds ∧ (s.st i).tramp.level = false ∧
    (s.st i).gap.dryRun = false ∧ (s.st i).gap.onsets.length + 1 < (s.st i).record.gapTuning.trampLimit ∧
    (s.st i).gap.state ≠ .isolated ∧ (s.st i).gap.state ≠ .faulted ∧ (s.st i).gap.state = .suspended :=
  ⟨demo (withGap fun g => { g with state := .suspended, move := some (workedMove .parked) }), 1, demo_serves _,
   whole_of_check _ rfl, feedHolds_of_check _ rfl, by decide +kernel⟩

/-- For TrampOnsetRelieves. -/
theorem test_witness_tramp_onset_in_calibrating : ∃ (s : State) (i : StationId) (c : Calibration),
    s.Serving i ∧ (s.st i).gap.Whole ∧ (s.st i).FeedHolds ∧ (s.st i).tramp.level = false ∧
    (s.st i).gap.dryRun = false ∧ (s.st i).gap.onsets.length + 1 < (s.st i).record.gapTuning.trampLimit ∧
    (s.st i).gap.state ≠ .isolated ∧ (s.st i).gap.state ≠ .faulted ∧ (s.st i).gap.calibration = some c :=
  ⟨demo (withGap fun g => { g with state := .calibrating, calibration := some draining }), 1, draining,
   demo_serves _, whole_of_check _ rfl, feedHolds_of_check _ rfl, by decide +kernel⟩

/-- For TrampOnsetRelieves. -/
theorem test_witness_tramp_onset_in_relieved : ∃ (s : State) (i : StationId),
    s.Serving i ∧ (s.st i).gap.Whole ∧ (s.st i).FeedHolds ∧ (s.st i).tramp.level = false ∧
    (s.st i).gap.dryRun = false ∧ (s.st i).gap.onsets.length + 1 < (s.st i).record.gapTuning.trampLimit ∧
    (s.st i).gap.state ≠ .isolated ∧ (s.st i).gap.state ≠ .faulted ∧ (s.st i).gap.state = .relieved :=
  ⟨demo (withGap fun g => { g with state := .relieved, pSave := some 38500, holdTimer := some 90000000 }), 1,
   demo_serves _, whole_of_check _ rfl, feedHolds_of_check _ rfl, by decide +kernel⟩

/-- For TrampOnsetRelieves. -/
theorem test_witness_tramp_onset_in_restoring : ∃ (s : State) (i : StationId),
    s.Serving i ∧ (s.st i).gap.Whole ∧ (s.st i).FeedHolds ∧ (s.st i).tramp.level = false ∧
    (s.st i).gap.dryRun = false ∧ (s.st i).gap.onsets.length + 1 < (s.st i).record.gapTuning.trampLimit ∧
    (s.st i).gap.state ≠ .isolated ∧ (s.st i).gap.state ≠ .faulted ∧ (s.st i).gap.state = .restoring :=
  ⟨demo (withGap fun g => { g with
      state := .restoring, pSave := some 38500, move := some restoring, context := some ⟨workedMove .parked, true⟩ }),
   1, demo_serves _, whole_of_check _ rfl, feedHolds_of_check _ rfl, by decide +kernel⟩

/-- For TrampRepeatFaults. -/
theorem test_witness_tramp_repeat : ∃ (s : State) (i : StationId),
    s.Serving i ∧ (s.st i).tramp.level = false ∧ (s.st i).gap.dryRun = false ∧
    (s.st i).gap.onsets.length + 1 = (s.st i).record.gapTuning.trampLimit ∧ (s.st i).gap.state = .idle :=
  ⟨demo (withGap fun g => { g with onsets := [500, 1000] }), 1, demo_serves _, by decide +kernel⟩

/-- For TrampRepeatFaults. -/
theorem test_witness_tramp_onset_in_isolated : ∃ (s : State) (i : StationId),
    s.Serving i ∧ (s.st i).tramp.level = false ∧ (s.st i).gap.dryRun = false ∧ (s.st i).gap.state = .isolated :=
  ⟨demo (withGap fun g => { g with state := .isolated }), 1, demo_serves _, by decide +kernel⟩

/-- For ClearanceHoldAndAgeing. -/
theorem test_witness_tramp_clearance : ∃ (s : State) (i : StationId),
    s.Serving i ∧ (s.st i).tramp.level = true ∧ (s.st i).gap.dryRun = false :=
  ⟨demo { (withGap fun g => { g with state := .relieved, pSave := some 38500 }) with tramp := ⟨true, 2⟩ }, 1,
   demo_serves _, by decide +kernel⟩

/-- For ClearanceHoldAndAgeing. -/
theorem test_witness_test_tramp_expiry : ∃ (s : State) (i : StationId) (e : Ticks),
    s.Serving i ∧ (s.st i).gap.testTimer = some e :=
  ⟨demo (withGap fun g => { g with
      state := .relieved, dryRun := true, sim := some 38500, simTramp := true, testTimer := some 90000000 }),
   1, 90000000, demo_serves _, by decide +kernel⟩

/-- For ClearanceHoldAndAgeing. -/
theorem test_witness_hold_expiry_restores : ∃ (s : State) (i : StationId) (e p : Nat),
    s.Serving i ∧ (s.st i).gap.holdTimer = some e ∧ (s.st i).gap.pSave = some p ∧ (s.st i).gap.noRestore = false :=
  ⟨demo (withGap fun g => { g with state := .relieved, holdTimer := some 90000000, pSave := some 38500 }), 1,
   90000000, 38500, demo_serves _, by decide +kernel⟩

/-- For ClearanceHoldAndAgeing. -/
theorem test_witness_hold_expiry_without_restore : ∃ (s : State) (i : StationId) (e : Ticks),
    s.Serving i ∧ (s.st i).gap.holdTimer = some e ∧ (s.st i).gap.noRestore = true ∧ (s.st i).gap.context = none ∧
    (s.st i).gap.move = none :=
  ⟨demo (withGap fun g => { g with
      state := .relieved, holdTimer := some 90000000, pSave := some 38500, noRestore := true }),
   1, 90000000, demo_serves _, by decide +kernel⟩

/-- For SettleWithinDeadbandCompletes. -/
theorem test_witness_settle_within_deadband : ∃ (s : State) (i : StationId) (m : Move) (e p q : Nat),
    s.Serving i ∧ (s.st i).gap.move = some m ∧ m.phase = .settle e ∧ m.pt = some q ∧ (s.st i).posInUse = some p ∧
    (m.kind = .setting ∨ m.kind = .trim) ∧ apart q p = (s.st i).record.gapTuning.d :=
  ⟨demo { (withGap fun g => { g with state := .moving, move := some settling }) with
      pos := { idleSt.pos with p := 38550 } },
   1, settling, 80000000, 38550, 38546, demo_serves _, by decide +kernel⟩

/-- For SettleWithinDeadbandCompletes. -/
theorem test_witness_settle_with_waiting_entry :
    ∃ (s : State) (i : StationId) (m : Move) (e p q : Nat) (x : SettingEntry) (l : OpenLot),
    s.Serving i ∧ (s.st i).gap.move = some m ∧ m.phase = .settle e ∧ m.pt = some q ∧ (s.st i).posInUse = some p ∧
    (m.kind = .setting ∨ m.kind = .trim) ∧ apart q p = (s.st i).record.gapTuning.d ∧ (s.st i).record.zValid = true ∧
    (s.st i).gap.queue = [x] ∧ (s.st i).sched.pending = true ∧ (s.st i).lots.lot = some l ∧
    l.target ≠ some x.effective :=
  ⟨demo { (withGap fun g => { g with state := .moving, move := some settling, queue := [entry] }) with
      pos := { idleSt.pos with p := 38550 }
      sched := { scheduleFresh with state := .held, pending := true, steps := [⟨20000, 50000⟩] }
      lots := ⟨some openLot, 6, none, 20000, 0⟩ },
   1, settling, 80000000, 38550, 38546, entry, openLot, demo_serves _, by decide +kernel⟩

/-- For SettleWithinDeadbandCompletes. -/
theorem test_witness_settle_with_trim_due : ∃ (s : State) (i : StationId) (m : Move) (e p q : Nat) (x : Nat),
    s.Serving i ∧ (s.st i).gap.move = some m ∧ m.phase = .settle e ∧ m.pt = some q ∧ (s.st i).posInUse = some p ∧
    (m.kind = .setting ∨ m.kind = .trim) ∧ apart q p = (s.st i).record.gapTuning.d ∧ (s.st i).gap.queue = [] ∧
    (s.st i).dueTrim ((s.st i).ended m .complete) = some x :=
  ⟨demo { (withGap fun g => { g with state := .moving, move := some { settling with eff := some 17000 } }) with
      pos := { idleSt.pos with p := 38550 } },
   1, { settling with eff := some 17000 }, 80000000, 38550, 38546, 17000, demo_serves _, by decide +kernel⟩

/-- For SettleWithinDeadbandCompletes. -/
theorem test_witness_restore_completes : ∃ (s : State) (i : StationId) (m : Move) (e p q : Nat),
    s.Serving i ∧ (s.st i).gap.move = some m ∧ m.phase = .settle e ∧ m.pt = some q ∧ (s.st i).posInUse = some p ∧
    m.kind = .restore ∧ apart q p = (s.st i).record.gapTuning.d ∧ (s.st i).gap.context = none :=
  ⟨demo { (withGap fun g => { g with
      state := .restoring, move := some restoring, pSave := some 38546, standing := some 18051 }) with
      pos := { idleSt.pos with p := 38542 } },
   1, restoring, 80000000, 38542, 38546, demo_serves _, by decide +kernel⟩

/-- For SettleWithinDeadbandCompletes. -/
theorem test_witness_restore_continues_context :
    ∃ (s : State) (i : StationId) (m : Move) (e p q : Nat) (c : Context),
    s.Serving i ∧ (s.st i).gap.move = some m ∧ m.phase = .settle e ∧ m.pt = some q ∧ (s.st i).posInUse = some p ∧
    m.kind = .restore ∧ apart q p = (s.st i).record.gapTuning.d ∧ (s.st i).gap.context = some c ∧
    c.move.eff = some 18500 :=
  ⟨demo { (withGap fun g => { g with
      state := .restoring, move := some restoring, pSave := some 38546
      context := some ⟨workedMove .parked, true⟩ }) with
      pos := { idleSt.pos with p := 38542 } },
   1, restoring, 80000000, 38542, 38546, ⟨workedMove .parked, true⟩, demo_serves _, by decide +kernel⟩

/-- For SettleWithinDeadbandCompletes. -/
theorem test_witness_backoff_completes : ∃ (s : State) (i : StationId) (m : Move) (c : Calibration) (e p q : Nat),
    s.Serving i ∧ (s.st i).gap.move = some m ∧ m.phase = .settle e ∧ m.pt = some q ∧ (s.st i).posInUse = some p ∧
    m.kind = .backoff ∧ (s.st i).gap.calibration = some c ∧ c.phase = .backoff ∧
    apart q p = (s.st i).record.gapTuning.d :=
  ⟨demo { (withGap fun g => { g with state := .calibrating, move := some backing, calibration := some backingOff }) with
      pos := { idleSt.pos with p := 38542 } },
   1, backing, backingOff, 80000000, 38542, 38546, demo_serves _, by decide +kernel⟩

/-- For SettleGivesPulse. -/
theorem test_witness_settle_outside_deadband : ∃ (s : State) (i : StationId) (m : Move) (e p q : Nat),
    s.Serving i ∧ (s.st i).gap.move = some m ∧ m.phase = .settle e ∧ m.pt = some q ∧ (s.st i).posInUse = some p ∧
    m.kind ≠ .seek ∧ m.pBefore = none ∧ apart q p = (s.st i).record.gapTuning.d + 1 ∧
    m.pulses ≠ (s.st i).record.gapTuning.pulseLimit :=
  ⟨demo { (withGap fun g => { g with state := .moving, move := some settling }) with
      pos := { idleSt.pos with p := 38551 } },
   1, settling, 80000000, 38551, 38546, demo_serves _, by decide +kernel⟩

/-- For SettleGivesPulse. -/
theorem test_witness_settle_after_two_stalls : ∃ (s : State) (i : StationId) (m : Move) (e p q : Nat) (b : Nat),
    s.Serving i ∧ (s.st i).gap.move = some m ∧ m.phase = .settle e ∧ m.pt = some q ∧ (s.st i).posInUse = some p ∧
    m.kind ≠ .seek ∧ m.pBefore = some b ∧ m.dir = some .closing ∧ p = b ∧ m.noProgress = 1 ∧
    apart q p = (s.st i).record.gapTuning.d + 1 ∧ m.pulses + 1 = (s.st i).record.gapTuning.pulseLimit :=
  ⟨demo { (withGap fun g => { g with state := .moving, move := some { pulsed with noProgress := 1, pulses := 23 } }) with
      pos := { idleSt.pos with p := 38541 } },
   1, { pulsed with noProgress := 1, pulses := 23 }, 80000000, 38541, 38546, 38541, demo_serves _, by decide +kernel⟩

/-- For SettleGivesPulse. -/
theorem test_witness_settle_at_close_power : ∃ (s : State) (i : StationId) (m : Move) (e p q : Nat),
    s.Serving i ∧ (s.st i).gap.move = some m ∧ m.phase = .settle e ∧ m.pt = some q ∧ (s.st i).posInUse = some p ∧
    m.kind ≠ .seek ∧ m.pBefore = none ∧ p < q ∧ (s.st i).power.reading = (s.st i).record.gapTuning.closePower ∧
    (s.st i).record.gapTuning.d < apart q p ∧ m.pulses ≠ (s.st i).record.gapTuning.pulseLimit :=
  ⟨demo { (withGap fun g => { g with state := .moving, move := some settling }) with
      pos := { idleSt.pos with p := 38500 }
      power := { powerChannelFresh with reading := 1800 } },
   1, settling, 80000000, 38500, 38546, demo_serves _, by decide +kernel⟩

/-- For SettleGivesPulse. -/
theorem test_witness_settle_above_close_power : ∃ (s : State) (i : StationId) (m : Move) (e p q : Nat),
    s.Serving i ∧ (s.st i).gap.move = some m ∧ m.phase = .settle e ∧ m.pt = some q ∧ (s.st i).posInUse = some p ∧
    m.kind ≠ .seek ∧ m.pBefore = none ∧ p < q ∧ (s.st i).power.reading = (s.st i).record.gapTuning.closePower + 1 ∧
    (s.st i).record.gapTuning.d < apart q p ∧ m.pulses ≠ (s.st i).record.gapTuning.pulseLimit :=
  ⟨demo { (withGap fun g => { g with state := .moving, move := some settling }) with
      pos := { idleSt.pos with p := 38500 }
      power := { powerChannelFresh with reading := 1801 } },
   1, settling, 80000000, 38500, 38546, demo_serves _, by decide +kernel⟩

/-- For SettleGivesPulse. -/
theorem test_witness_setting_stalls : ∃ (s : State) (i : StationId) (m : Move) (e p q : Nat) (b : Nat),
    s.Serving i ∧ (s.st i).gap.move = some m ∧ m.phase = .settle e ∧ m.pt = some q ∧ (s.st i).posInUse = some p ∧
    (m.kind = .setting ∨ m.kind = .trim) ∧ m.pBefore = some b ∧ m.dir = some .closing ∧ p = b ∧ m.noProgress = 2 ∧
    apart q p = (s.st i).record.gapTuning.d + 1 :=
  ⟨demo { (withGap fun g => { g with state := .moving, move := some { pulsed with noProgress := 2 } }) with
      pos := { idleSt.pos with p := 38541 } },
   1, { pulsed with noProgress := 2 }, 80000000, 38541, 38546, 38541, demo_serves _, by decide +kernel⟩

/-- For SettleGivesPulse. -/
theorem test_witness_trim_at_pulse_limit : ∃ (s : State) (i : StationId) (m : Move) (e p q : Nat),
    s.Serving i ∧ (s.st i).gap.move = some m ∧ m.phase = .settle e ∧ m.pt = some q ∧ (s.st i).posInUse = some p ∧
    (m.kind = .setting ∨ m.kind = .trim) ∧ m.pBefore = none ∧ apart q p = (s.st i).record.gapTuning.d + 1 ∧
    m.pulses = (s.st i).record.gapTuning.pulseLimit ∧ m.kind = .trim :=
  ⟨demo { (withGap fun g => { g with state := .moving, move := some { settling with kind := .trim, pulses := 24 } }) with
      pos := { idleSt.pos with p := 38541 } },
   1, { settling with kind := .trim, pulses := 24 }, 80000000, 38541, 38546, demo_serves _, by decide +kernel⟩

/-- For SettleGivesPulse. -/
theorem test_witness_restore_stalls :
    ∃ (s : State) (i : StationId) (m : Move) (e p q : Nat) (b : Nat) (c : Context),
    s.Serving i ∧ (s.st i).gap.move = some m ∧ m.phase = .settle e ∧ m.pt = some q ∧ (s.st i).posInUse = some p ∧
    m.kind = .restore ∧ (s.st i).gap.state = .restoring ∧ m.pBefore = some b ∧ m.dir = some .closing ∧ p = b ∧
    m.noProgress = 2 ∧ apart q p = (s.st i).record.gapTuning.d + 1 ∧ (s.st i).gap.context = some c :=
  ⟨demo { (withGap fun g => { g with
      state := .restoring, pSave := some 38546, context := some ⟨workedMove .parked, false⟩
      move := some { restoring with pBefore := some 38541, dir := some .closing, noProgress := 2 } }) with
      pos := { idleSt.pos with p := 38541 } },
   1, { restoring with pBefore := some 38541, dir := some .closing, noProgress := 2 }, 80000000, 38541, 38546, 38541,
   ⟨workedMove .parked, false⟩, demo_serves _, by decide +kernel⟩

/-- For SettleGivesPulse. -/
theorem test_witness_backoff_at_pulse_limit :
    ∃ (s : State) (i : StationId) (m : Move) (c : Calibration) (e p q : Nat),
    s.Serving i ∧ (s.st i).gap.move = some m ∧ m.phase = .settle e ∧ m.pt = some q ∧ (s.st i).posInUse = some p ∧
    m.kind = .backoff ∧ (s.st i).gap.calibration = some c ∧ c.phase = .backoff ∧
    apart q p = (s.st i).record.gapTuning.d + 1 ∧ m.pulses = (s.st i).record.gapTuning.pulseLimit :=
  ⟨demo { (withGap fun g => { g with
      state := .calibrating, move := some { backing with pulses := 24 }, calibration := some backingOff }) with
      pos := { idleSt.pos with p := 38551 } },
   1, { backing with pulses := 24 }, backingOff, 80000000, 38551, 38546, demo_serves _, by decide +kernel⟩

/-- For PulseTimerEndsPulse. -/
theorem test_witness_pulse_timer : ∃ (s : State) (i : StationId) (m : Move) (since width : Nat),
    s.Serving i ∧ (s.st i).gap.move = some m ∧ m.phase = .pulse since width ∧ s.clock ≤ since + msTicks width :=
  ⟨demo (withGap fun g => { g with state := .moving, move := some pulsing, closeOut := true }), 1, pulsing, 80000000,
   460, demo_serves _, by decide +kernel⟩

/-- For LoadWaitAndDwellExpire. -/
theorem test_witness_load_wait_expiry : ∃ (s : State) (i : StationId) (m : Move) (since e : Nat),
    s.Serving i ∧ (s.st i).gap.move = some m ∧ (m.kind = .setting ∨ m.kind = .trim) ∧
    m.phase = .waitLoad since (some e) :=
  ⟨demo (withGap fun g => { g with state := .moving, move := some loadWaiting }), 1, loadWaiting, 80000000,
   2480000000, demo_serves _, by decide +kernel⟩

/-- For LoadWaitAndDwellExpire. -/
theorem test_witness_dwell_expiry : ∃ (s : State) (i : StationId) (m : Move) (e : Ticks),
    s.Serving i ∧ (s.st i).gap.Whole ∧ (s.st i).gap.move = some m ∧ m.dwell = some e ∧ (s.st i).gap.state = .moving ∧
    m.pendingSuspend = false :=
  ⟨demo (moving dwelling), 1, dwelling, 90000000, demo_serves _, whole_of_check _ rfl, by decide +kernel⟩

/-- For LoadWaitAndDwellExpire. -/
theorem test_witness_dwell_expiry_suspends : ∃ (s : State) (i : StationId) (m : Move) (e : Ticks),
    s.Serving i ∧ (s.st i).gap.Whole ∧ (s.st i).gap.move = some m ∧ m.dwell = some e ∧ (s.st i).gap.state = .moving ∧
    m.pendingSuspend = true :=
  ⟨demo (moving { dwelling with pendingSuspend := true }), 1, { dwelling with pendingSuspend := true }, 90000000,
   demo_serves _, whole_of_check _ rfl, by decide +kernel⟩

/-- For DrainTimersExpire. -/
theorem test_witness_quiet_timer : ∃ (s : State) (i : StationId) (c : Calibration) (e : Ticks),
    s.Serving i ∧ (s.st i).gap.calibration = some c ∧ c.phase = .drain ∧ c.quietTimer = some e :=
  ⟨demo (withGap fun g => { g with state := .calibrating, calibration := some draining }), 1, draining, 480000000,
   demo_serves _, by decide +kernel⟩

/-- For DrainTimersExpire. -/
theorem test_witness_drain_timeout : ∃ (s : State) (i : StationId) (c : Calibration) (e : Ticks),
    s.Serving i ∧ (s.st i).gap.calibration = some c ∧ c.phase = .drain ∧ c.drainTimer = some e ∧
    (s.st i).gap.move = none :=
  ⟨demo (withGap fun g => { g with state := .calibrating, calibration := some draining }), 1, draining, 7280000000,
   demo_serves _, by decide +kernel⟩

/-- For SeekFindsContact. -/
theorem test_witness_seek_gives_pulse : ∃ (s : State) (i : StationId) (m : Move) (c : Calibration) (e p : Nat),
    s.Serving i ∧ (s.st i).gap.move = some m ∧ m.kind = .seek ∧ m.phase = .settle e ∧
    (s.st i).gap.calibration = some c ∧ (s.st i).posInUse = some p ∧ p ≠ 65535 ∧ m.pBefore = none ∧
    m.pulses ≠ (s.st i).record.gapTuning.calPulseLimit :=
  ⟨demo { (withGap fun g => { g with state := .calibrating, calibration := some seeking, move := some seekingMove }) with
      pos := { idleSt.pos with p := 38546 } },
   1, seekingMove, seeking, 80000000, 38546, demo_serves _, by decide +kernel⟩

/-- For SeekFindsContact. -/
theorem test_witness_seek_pulses_on :
    ∃ (s : State) (i : StationId) (m : Move) (c : Calibration) (e p : Nat) (b : Nat),
    s.Serving i ∧ (s.st i).gap.move = some m ∧ m.kind = .seek ∧ m.phase = .settle e ∧
    (s.st i).gap.calibration = some c ∧ (s.st i).posInUse = some p ∧ p ≠ 65535 ∧ m.pBefore = some b ∧ p ≤ b ∧
    m.noProgress = 0 ∧ m.pulses + 1 = (s.st i).record.gapTuning.calPulseLimit :=
  ⟨demo { (withGap fun g => { g with state := .calibrating, calibration := some seeking, move := some (seekPulsed 38546 399 0) }) with
      pos := { idleSt.pos with p := 38546 } },
   1, (seekPulsed 38546 399 0), seeking, 80000000, 38546, 38546, demo_serves _, by decide +kernel⟩

/-- For SeekFindsContact. -/
theorem test_witness_seek_at_range_end : ∃ (s : State) (i : StationId) (m : Move) (c : Calibration) (e p : Nat),
    s.Serving i ∧ (s.st i).gap.move = some m ∧ m.kind = .seek ∧ m.phase = .settle e ∧
    (s.st i).gap.calibration = some c ∧ (s.st i).posInUse = some p ∧ c.phase = .seek ∧ p = 65535 :=
  ⟨demo { (withGap fun g => { g with state := .calibrating, calibration := some seeking, move := some seekingMove }) with
      pos := { idleSt.pos with p := 65535 } },
   1, seekingMove, seeking, 80000000, 65535, demo_serves _, by decide +kernel⟩

/-- For SeekFindsContact. -/
theorem test_witness_seek_at_pulse_limit :
    ∃ (s : State) (i : StationId) (m : Move) (c : Calibration) (e p : Nat) (b : Nat),
    s.Serving i ∧ (s.st i).gap.move = some m ∧ m.kind = .seek ∧ m.phase = .settle e ∧
    (s.st i).gap.calibration = some c ∧ (s.st i).posInUse = some p ∧ p ≠ 65535 ∧ c.phase = .seek ∧
    m.pBefore = some b ∧ b < p ∧ m.pulses = (s.st i).record.gapTuning.calPulseLimit :=
  ⟨demo { (withGap fun g => { g with state := .calibrating, calibration := some seeking, move := some (seekPulsed 38545 400 1) }) with
      pos := { idleSt.pos with p := 38546 } },
   1, (seekPulsed 38545 400 1), seeking, 80000000, 38546, 38545, demo_serves _, by decide +kernel⟩

/-- For SeekFindsContact. -/
theorem test_witness_seek_finds_contact :
    ∃ (s : State) (i : StationId) (m : Move) (c : Calibration) (e p : Nat) (b : Nat),
    s.Serving i ∧ (s.st i).gap.move = some m ∧ m.kind = .seek ∧ m.phase = .settle e ∧
    (s.st i).gap.calibration = some c ∧ (s.st i).posInUse = some p ∧ p ≠ 65535 ∧ m.pBefore = some b ∧ p ≤ b ∧
    m.noProgress = 1 :=
  ⟨demo { (withGap fun g => { g with state := .calibrating, calibration := some seeking, move := some (seekPulsed 40090 17 1) }) with
      pos := { idleSt.pos with p := 40090 } },
   1, (seekPulsed 40090 17 1), seeking, 80000000, 40090, 40090, demo_serves _, by decide +kernel⟩

/-- For ControlStepChangesDemand. -/
theorem test_witness_control_step_at_run_power : ∃ (s : State) (i : StationId) (e : Ticks),
    s.Serving i ∧ (s.st i).feed.controlTimer = some e ∧ (s.st i).feed.stops = noStops ∧ (s.st i).feed.tuned = false ∧
    (s.st i).feed.mode ≠ .stop ∧ (s.st i).record.feedTuning.runPower ≤ (s.st i).power.reading ∧
    (s.st i).power.reading ≤ (s.st i).record.limits.powerTrip ∧ (s.st i).power.reading = 300 ∧
    (s.st i).feed.mode = .auto :=
  ⟨demo { feeding .auto 300 with level := { levelChannelFresh with last := some 1542 } }, 1, 90000000, demo_serves _,
   by decide +kernel⟩

/-- For ControlStepChangesDemand. -/
theorem test_witness_control_step_at_power_trip : ∃ (s : State) (i : StationId) (e : Ticks),
    s.Serving i ∧ (s.st i).feed.controlTimer = some e ∧ (s.st i).feed.stops = noStops ∧ (s.st i).feed.tuned = false ∧
    (s.st i).feed.mode ≠ .stop ∧ (s.st i).record.feedTuning.runPower ≤ (s.st i).power.reading ∧
    (s.st i).power.reading ≤ (s.st i).record.limits.powerTrip ∧ (s.st i).power.reading = 3000 ∧
    (s.st i).feed.mode = .manual :=
  ⟨demo { feeding .manual 3000 with level := { levelChannelFresh with last := some 1542 } }, 1, 90000000,
   demo_serves _, by decide +kernel⟩

/-- For ControlIntervalPostsPowerReasons. -/
theorem test_witness_control_interval_trips : ∃ (s : State) (i : StationId) (e : Ticks),
    s.Serving i ∧ (s.st i).feed.controlTimer = some e ∧ (s.st i).feed.stops = noStops ∧
    (s.st i).record.limits.powerTrip < (s.st i).power.reading :=
  ⟨demo { feeding .auto 3001 with level := { levelChannelFresh with last := some 1542 } }, 1, 90000000,
   demo_serves _, by decide +kernel⟩

/-- For ChainTimerPostsDownstream. -/
theorem test_witness_chain_timer : ∃ (s : State) (i : StationId) (e : Ticks),
    s.Serving i ∧ (s.st i).FeedHolds ∧ (s.st i).feed.chainTimer = some e ∧ s.downstreamIdle i = true ∧
    (∀ j, (s.st j).feed.stops.downstream = true → s.downstreamIdle j = true) ∧
    setHas (s.st i).feed.downstream i = false :=
  ⟨demo { idleSt with feed := { idleSt.feed with downstream := 0x0D#8, chainTimer := some 90000000 } }, 1, 90000000,
   demo_serves _, feedHolds_of_check _ rfl, by decide +kernel⟩

/-- For ChainTimerPostsDownstream. -/
theorem test_witness_feeder_below_stops : ∃ (s : State) (i j : StationId),
    s.HearsFor j ∧ (s.st j).FeedHolds ∧ s.present i = true ∧ i ≠ j ∧
    (∀ k, (s.st k).feed.stops.downstream = true → s.downstreamIdle k = true) ∧
    setHas (s.st i).feed.downstream j = true ∧
    (∀ k, k ≠ j → setHas (s.st i).feed.downstream k = true → s.outputSeen k = 0) ∧
    (s.st i).feed.stops.downstream = false ∧ (s.st i).feed.chainTimer = none ∧ 0 < (s.st j).feed.output :=
  ⟨(demo (feeding .auto 600)).modFeed 0 fun f => { f with downstream := 0x0E#8 }, 0, 1, ⟨⟨rfl, rfl, by decide⟩, rfl⟩,
   feedHolds_of_check (feeding .auto 600) rfl, by decide +kernel⟩

/-- For ChainTimerPostsDownstream. -/
theorem test_witness_feeder_below_starts : ∃ (s : State) (i j : StationId),
    s.HearsFor j ∧ s.present i = true ∧ i ≠ j ∧ setHas (s.st i).feed.downstream j = true ∧
    (s.st j).feed.mode = .stop ∧ (s.st j).feed.stops = noStops ∧ 0 < (s.st j).record.feedTuning.rateMin ∧
    (s.st i).feed.stops = { noStops with downstream := true } ∧ (s.st i).feed.mode ≠ .stop :=
  ⟨(demo idleSt).modFeed 0 fun f =>
      { f with downstream := 0x02#8, mode := .manual, stops := { noStops with downstream := true } },
   0, 1, ⟨⟨rfl, rfl, by decide⟩, rfl⟩, by decide +kernel⟩

/-- For ChainTimerPostsDownstream. -/
theorem test_witness_tuned_set_idle : ∃ (s : State) (i : StationId) (e : Ticks),
    s.Serving i ∧ (s.st i).FeedHolds ∧ (s.st i).feed.controlTimer = some e ∧ (s.st i).feed.tuned = true ∧
    (s.st i).feed.mode = .stop ∧ (∀ k, (s.st k).feed.stops.downstream = true → s.downstreamIdle k = true) ∧
    (s.st i).record.feedTuning.downstream ≠ 0#8 ∧
    (∀ k, setHas (s.st i).record.feedTuning.downstream k = true → s.outputSeen k = 0) ∧
    (s.st i).feed.stops.downstream = false :=
  ⟨demo { idleSt with
      record := { workedRecord with feedTuning := { feedTuningDefault with downstream := 0x01#8 } }
      feed := { idleSt.feed with controlTimer := some 90000000, tuned := true } },
   1, 90000000, demo_serves _, feedHolds_of_check _ rfl, by decide +kernel⟩

/-- For ChainTimerPostsDownstream. -/
theorem test_witness_tuned_set_emptied : ∃ (s : State) (i : StationId) (e : Ticks),
    s.Serving i ∧ (s.st i).FeedHolds ∧ (s.st i).feed.controlTimer = some e ∧ (s.st i).feed.tuned = true ∧
    (s.st i).feed.mode = .stop ∧ (∀ k, (s.st k).feed.stops.downstream = true → s.downstreamIdle k = true) ∧
    (s.st i).record.feedTuning.downstream = 0#8 ∧ (s.st i).feed.stops.downstream = true :=
  ⟨demo { idleSt with
      record := { workedRecord with feedTuning := { feedTuningDefault with downstream := 0#8 } }
      feed := { idleSt.feed with
      controlTimer := some 90000000, tuned := true, downstream := 0x01#8, stops := { noStops with
      downstream := true } } },
   1, 90000000, demo_serves _, feedHolds_of_check _ rfl, by decide +kernel⟩

/-- For WaveformHalves. -/
theorem test_witness_wave_high : ∃ (s : State) (i : StationId) (w : Wave),
    s.Serving i ∧ (s.st i).feed.wave = some w ∧ w.high = true :=
  ⟨demo { idleSt with feed := { idleSt.feed with wave := some ⟨true, 329, some 309, 80006560⟩ } }, 1,
   ⟨true, 329, some 309, 80006560⟩, demo_serves _, by decide +kernel⟩

/-- For WaveformHalves. -/
theorem test_witness_wave_low : ∃ (s : State) (i : StationId) (w : Wave),
    s.Serving i ∧ (s.st i).feed.wave = some w ∧ w.high = false :=
  ⟨demo { idleSt with feed := { idleSt.feed with wave := some ⟨false, 329, some 309, 80006600⟩ } }, 1,
   ⟨false, 329, some 309, 80006600⟩, demo_serves _, by decide +kernel⟩

/-- For SetFeedChangesMode. -/
theorem test_witness_set_feed : ∃ (s : State) (i : StationId) (n mode : Nat) (bcast : Bool) (m : FeedMode),
    s.HearsFrame bcast ∧ s.Names n i ∧
    (∀ j, s.Names n j → (s.st j).FeedHolds ∧ (s.st j).feed.stops.downstream = false) ∧ feedModeOf mode = some m :=
  ⟨demo idleSt, 1, 1, 2, false, .auto, ⟨rfl, rfl, .inr (by decide)⟩, ⟨by decide +kernel, .inl rfl⟩,
   fed _ (by decide +kernel), by decide +kernel⟩

/-- For SetFeedChangesMode. -/
theorem test_witness_set_feed_broadcast_to_all : ∃ (s : State) (n : Nat) (bcast : Bool),
    s.HearsFrame bcast ∧ (∀ j, s.Names n j → (s.st j).FeedHolds ∧ (s.st j).feed.stops.downstream = false) ∧ n = 255 ∧
    s.link.addr = 0 :=
  ⟨{ demo idleSt with link := { linkFresh with rx := .listen } }, 255, true, ⟨rfl, rfl, .inl rfl⟩,
   fed _ (by decide +kernel), by decide +kernel⟩

/-- For TuneFeedReplacesTuning. -/
theorem test_witness_tune_feed_closes_cycle : ∃ (s : State) (i : StationId) (b : StationSet),
    s.HearsFor i ∧ b &&& 0xF0#8 = 0#8 ∧ chainCycle (s.downstreamWith i b) = true :=
  ⟨demo idleSt, 1, 0x02#8, demo_hearsFor _, by decide +kernel⟩

/-- For TuneFeedReplacesTuning. -/
theorem test_witness_tune_feed_taken : ∃ (s : State) (i : StationId) (b : StationSet),
    s.HearsFor i ∧ b &&& 0xF0#8 = 0#8 ∧ chainCycle (s.downstreamWith i b) = false :=
  ⟨demo idleSt, 1, 0x0D#8, demo_hearsFor _, by decide +kernel⟩

/-- For LotQueueTakesAndGives. -/
theorem test_witness_lean_timer : ∃ (s : State) (i : StationId) (l : OpenLot) (e : Ticks),
    s.Serving i ∧ (s.st i).lots.lot = some l ∧ (s.st i).lots.leanTimer = some e ∧ s.lotQueue.length < 16 :=
  ⟨demo { idleSt with lots := ⟨some openLot, 6, some 90000000, 20000, 0⟩ }, 1, openLot, 90000000, demo_serves _,
   by decide +kernel⟩

/-- For LotQueueTakesAndGives. -/
theorem test_witness_lean_timer_on_full_queue : ∃ (s : State) (i : StationId) (l : OpenLot) (e : Ticks),
    s.Serving i ∧ (s.st i).lots.lot = some l ∧ (s.st i).lots.leanTimer = some e ∧ s.lotQueue.length = 16 :=
  ⟨{ demo { idleSt with lots := ⟨some openLot, 6, some 90000000, 20000, 0⟩ } with
      lotQueue := List.replicate 16 ⟨1, 0, 0, .cut, none, none, none, 0⟩ },
   1, openLot, 90000000, ⟨rfl, by decide⟩, by decide +kernel⟩

/-- For LotQueueTakesAndGives and ReadingAnswersRecords. -/
theorem test_witness_hears : ∃ (s : State),
    s.Hearing :=
  ⟨demo idleSt, demo_hears _⟩

/-- For ScheduleLoadsAndStops. -/
theorem test_witness_load_schedule : ∃ (s : State) (i : StationId) (steps : List ScheduleStep),
    s.HearsFor i ∧ steps ≠ [] ∧ steps.length ≤ 8 ∧ (s.st i).sched.state ≠ .running ∧ (s.st i).sched.state ≠ .held :=
  ⟨demo idleSt, 1, List.replicate 8 ⟨18500, 999⟩, demo_hearsFor _, by decide +kernel⟩

/-- For ScheduleLoadsAndStops. -/
theorem test_witness_schedule_stop : ∃ (s : State) (i : StationId) (mode cyclic : Nat),
    s.HearsFor i ∧ (mode = 1 ∨ mode = 2) ∧ cyclic ≤ 1 ∧
    ((s.st i).sched.state = .running ∨ (s.st i).sched.state = .held) :=
  ⟨demo { idleSt with sched := { scheduleFresh with state := .held, steps := [⟨18500, 50000⟩] } }, 1, 1, 0,
   demo_hearsFor _, by decide +kernel⟩

/-- For ScheduleStartsAndAdvances. -/
theorem test_witness_schedule_start :
    ∃ (s : State) (i : StationId) (mode cyclic : Nat) (p : ScheduleStep) (rest : List ScheduleStep),
    s.HearsFor i ∧ (mode = 1 ∨ mode = 2) ∧ cyclic ≤ 1 ∧
    ((s.st i).sched.state = .loaded ∨ (s.st i).sched.state = .ended) ∧ (s.st i).sched.steps = p :: rest ∧
    (s.st i).gap.state = .moving ∧ (s.st i).gap.queue.length < 4 :=
  ⟨demo { (moving settling) with
      sched := { scheduleFresh with state := .ended, steps := [⟨18500, 50000⟩, ⟨20000, 50000⟩] } },
   1, 2, 1, ⟨18500, 50000⟩, [⟨20000, 50000⟩], demo_hearsFor _, by decide +kernel⟩

/-- For ScheduleStartsAndAdvances. -/
theorem test_witness_schedule_start_in_idle :
    ∃ (s : State) (i : StationId) (mode cyclic : Nat) (p : ScheduleStep) (rest : List ScheduleStep) (l : OpenLot),
    s.HearsFor i ∧ (mode = 1 ∨ mode = 2) ∧ cyclic ≤ 1 ∧
    ((s.st i).sched.state = .loaded ∨ (s.st i).sched.state = .ended) ∧ (s.st i).sched.steps = p :: rest ∧
    (s.st i).gap.state = .idle ∧ (s.st i).gap.queue = [] ∧ (s.st i).lots.lot = some l ∧ l.target ≠ some p.target :=
  ⟨demo { idleSt with
      sched := { scheduleFresh with state := .loaded, steps := [⟨20000, 50000⟩] }
      lots := ⟨some openLot, 6, none, 20000, 0⟩ },
   1, 1, 0, ⟨20000, 50000⟩, [], openLot, demo_hearsFor _, by decide +kernel⟩

/-- For ScheduleStartsAndAdvances. -/
theorem test_witness_schedule_start_held :
    ∃ (s : State) (i : StationId) (mode cyclic : Nat) (p : ScheduleStep) (rest : List ScheduleStep),
    s.HearsFor i ∧ (mode = 1 ∨ mode = 2) ∧ cyclic ≤ 1 ∧
    ((s.st i).sched.state = .loaded ∨ (s.st i).sched.state = .ended) ∧ (s.st i).sched.steps = p :: rest ∧
    (s.st i).gap.state = .moving ∧ (s.st i).gap.queue.length = 4 :=
  ⟨demo { (withGap fun g => { g with state := .moving, move := some settling, queue := List.replicate 4 entry }) with
      sched := { scheduleFresh with state := .loaded, steps := [⟨20000, 50000⟩] } },
   1, 1, 0, ⟨20000, 50000⟩, [], demo_hearsFor _, by decide +kernel⟩

/-- For ScheduleStartsAndAdvances. -/
theorem test_witness_schedule_advance : ∃ (s : State) (i : StationId) (mode cyclic : Nat) (p : ScheduleStep),
    s.HearsFor i ∧ (mode = 1 ∨ mode = 2) ∧ cyclic ≤ 1 ∧ (s.st i).sched.state = .running ∧
    (s.st i).sched.mode = .manual ∧ (s.st i).sched.pending = false ∧ (s.st i).gap.state ≠ .idle ∧
    (s.st i).sched.steps[(s.st i).sched.index + 1]? = some p :=
  ⟨demo { (moving settling) with
      sched := { scheduleFresh with state := .running, mode := .manual, steps := [⟨18500, 50000⟩, ⟨20000, 50000⟩] } },
   1, 2, 0, ⟨20000, 50000⟩, demo_hearsFor _, by decide +kernel⟩

/-- For ScheduleStartsAndAdvances. -/
theorem test_witness_schedule_advance_ends : ∃ (s : State) (i : StationId) (mode cyclic : Nat),
    s.HearsFor i ∧ (mode = 1 ∨ mode = 2) ∧ cyclic ≤ 1 ∧ (s.st i).sched.state = .running ∧
    (s.st i).sched.mode = .manual ∧ (s.st i).sched.pending = false ∧ (s.st i).gap.state ≠ .idle ∧
    (s.st i).sched.steps.length ≤ (s.st i).sched.index + 1 ∧ (s.st i).sched.cyclic = false :=
  ⟨demo { (moving settling) with
      sched := { scheduleFresh with state := .running, mode := .manual, steps := [⟨18500, 50000⟩] } },
   1, 2, 0, demo_hearsFor _, by decide +kernel⟩

/-- For ScheduleStartsAndAdvances. -/
theorem test_witness_schedule_advance_wraps : ∃ (s : State) (i : StationId) (mode cyclic : Nat) (p : ScheduleStep),
    s.HearsFor i ∧ (mode = 1 ∨ mode = 2) ∧ cyclic ≤ 1 ∧ (s.st i).sched.state = .running ∧
    (s.st i).sched.mode = .manual ∧ (s.st i).sched.pending = false ∧ (s.st i).gap.state ≠ .idle ∧
    (s.st i).sched.steps.length ≤ (s.st i).sched.index + 1 ∧ (s.st i).sched.cyclic = true ∧
    (s.st i).sched.steps[0]? = some p :=
  ⟨demo { (moving settling) with
      sched := { scheduleFresh with state := .running, mode := .manual, cyclic := true, steps := [⟨18500, 50000⟩] } },
   1, 2, 0, ⟨18500, 50000⟩, demo_hearsFor _, by decide +kernel⟩

/-- For ScheduleStartsAndAdvances. -/
theorem test_witness_schedule_advance_held : ∃ (s : State) (i : StationId) (mode cyclic : Nat) (p : ScheduleStep),
    s.HearsFor i ∧ (mode = 1 ∨ mode = 2) ∧ cyclic ≤ 1 ∧ (s.st i).sched.state = .running ∧
    (s.st i).sched.mode = .manual ∧ (s.st i).sched.pending = false ∧ (s.st i).gap.state ≠ .idle ∧
    (s.st i).sched.steps[(s.st i).sched.index + 1]? = some p ∧ (s.st i).gap.queue.length = 4 :=
  ⟨demo { (withGap fun g => { g with state := .moving, move := some settling, queue := List.replicate 4 entry }) with
      sched := { scheduleFresh with state := .running, mode := .manual, steps := [⟨18500, 50000⟩, ⟨20000, 50000⟩] } },
   1, 2, 0, ⟨20000, 50000⟩, demo_hearsFor _, by decide +kernel⟩

/-- For ScheduleStartsAndAdvances. -/
theorem test_witness_space_event_releases_step : ∃ (s : State) (i : StationId) (p : ScheduleStep),
    s.HearsFor i ∧ (s.st i).sched.state = .held ∧ (s.st i).sched.pending = true ∧
    (s.st i).sched.steps[(s.st i).sched.index]? = some p ∧ (s.st i).gap.queue ≠ [] ∧ (s.st i).gap.state ≠ .idle :=
  ⟨demo { (withGap fun g => { g with state := .moving, move := some settling, queue := List.replicate 4 entry }) with
      sched := { scheduleFresh with state := .held, pending := true, steps := [⟨20000, 50000⟩] } },
   1, ⟨20000, 50000⟩, demo_hearsFor _, by decide +kernel⟩

/-- For AppendFormsEntry. -/
theorem test_witness_append_in_idle : ∃ (s : State) (i : StationId),
    s.HearsFor i ∧ (s.st i).gap.state = .idle ∧ (s.st i).record.zValid = true ∧ (s.st i).gap.queue = [] :=
  ⟨demo idleSt, 1, demo_hearsFor _, by decide +kernel⟩

/-- For AppendFormsEntry. -/
theorem test_witness_append_cuts_lot : ∃ (s : State) (i : StationId) (l : OpenLot),
    s.HearsFor i ∧ (s.st i).gap.state = .idle ∧ (s.st i).record.zValid = true ∧ (s.st i).gap.queue = [] ∧
    (s.st i).lots.lot = some l ∧ l.target = some 18500 ∧ s.lotQueue.length = 16 :=
  ⟨{ demo { idleSt with lots := ⟨some openLot, 6, none, 20000, 0⟩ } with
      lotQueue := List.replicate 16 ⟨1, 0, 0, .cut, none, none, none, 0⟩ },
   1, openLot, ⟨⟨rfl, rfl, by decide⟩, rfl⟩, by decide +kernel⟩

/-- For AppendFormsEntry. -/
theorem test_witness_append_refused : ∃ (s : State) (i : StationId),
    s.HearsFor i ∧ (s.st i).gap.state = .moving ∧ (s.st i).record.zValid = true ∧ (s.st i).gap.queue.length = 4 :=
  ⟨demo (withGap fun g => { g with state := .moving, move := some settling, queue := List.replicate 4 entry }), 1,
   demo_hearsFor _, by decide +kernel⟩

/-- For AppendFormsEntry. -/
theorem test_witness_append_to_queue : ∃ (s : State) (i : StationId),
    s.HearsFor i ∧
    ((s.st i).gap.state = .moving ∨ (s.st i).gap.state = .suspended ∨ (s.st i).gap.state = .relieved ∨
      (s.st i).gap.state = .restoring ∨ (s.st i).gap.state = .calibrating) ∧
    (s.st i).record.zValid = true ∧ (s.st i).gap.queue.length < 4 ∧ (s.st i).gap.queue.length = 3 :=
  ⟨demo (withGap fun g => { g with state := .moving, move := some settling, queue := List.replicate 3 entry }), 1,
   demo_hearsFor _, by decide +kernel⟩

/-- For ReplaceRetargetsMove. -/
theorem test_witness_replace_in_moving : ∃ (s : State) (i : StationId) (m : Move),
    s.HearsFor i ∧ (s.st i).gap.Whole ∧ (s.st i).record.zValid = true ∧ (s.st i).gap.dryRun = false ∧
    (s.st i).gap.state = .moving ∧ (s.st i).gap.move = some m :=
  ⟨demo (moving settling), 1, settling, demo_hearsFor _, whole_of_check _ rfl, by decide +kernel⟩

/-- For ReplaceRetargetsMove. -/
theorem test_witness_replace_in_suspended : ∃ (s : State) (i : StationId) (m : Move),
    s.HearsFor i ∧ (s.st i).gap.Whole ∧ (s.st i).record.zValid = true ∧ (s.st i).gap.dryRun = false ∧
    (s.st i).gap.state = .suspended ∧ (s.st i).gap.move = some m ∧ (s.st i).gap.queue ≠ [] ∧
    (s.st i).sched.pending = true :=
  ⟨demo { (withGap fun g => { g with state := .suspended, move := some (workedMove .parked), queue := [entry] }) with
      sched := { scheduleFresh with state := .held, pending := true, steps := [⟨20000, 50000⟩] } },
   1, workedMove .parked, demo_hearsFor _, whole_of_check _ rfl, by decide +kernel⟩

/-- For ReplaceRetargetsMove. -/
theorem test_witness_replace_in_relieved : ∃ (s : State) (i : StationId) (c : Context),
    s.HearsFor i ∧ (s.st i).gap.Whole ∧ (s.st i).record.zValid = true ∧ (s.st i).gap.dryRun = false ∧
    (s.st i).gap.state = .relieved ∧ (s.st i).gap.context = some c :=
  ⟨demo (withGap fun g => { g with state := .relieved, context := some ⟨workedMove .parked, true⟩ }), 1,
   ⟨workedMove .parked, true⟩, demo_hearsFor _, whole_of_check _ rfl, by decide +kernel⟩

/-- For ReplaceRetargetsMove. -/
theorem test_witness_replace_in_restoring : ∃ (s : State) (i : StationId),
    s.HearsFor i ∧ (s.st i).gap.Whole ∧ (s.st i).record.zValid = true ∧ (s.st i).gap.dryRun = false ∧
    (s.st i).gap.state = .restoring ∧ (s.st i).gap.context = none :=
  ⟨demo (withGap fun g => { g with state := .restoring, move := some restoring }), 1, demo_hearsFor _,
   whole_of_check _ rfl, by decide +kernel⟩

/-- For ReplaceRetargetsMove. -/
theorem test_witness_replace_in_calibrating : ∃ (s : State) (i : StationId),
    s.HearsFor i ∧ (s.st i).gap.Whole ∧ (s.st i).record.zValid = true ∧ (s.st i).gap.dryRun = false ∧
    (s.st i).gap.state = .calibrating ∧ (s.st i).gap.context = none :=
  ⟨demo (withGap fun g => { g with state := .calibrating, calibration := some draining }), 1, demo_hearsFor _,
   whole_of_check _ rfl, by decide +kernel⟩

/-- For ReplaceRetargetsMove. -/
theorem test_witness_replace_in_idle : ∃ (s : State) (i : StationId),
    s.HearsFor i ∧ (s.st i).gap.Whole ∧ (s.st i).record.zValid = true ∧ (s.st i).gap.dryRun = false ∧
    (s.st i).gap.state = .idle ∧ (s.st i).gap.queue = [] :=
  ⟨demo idleSt, 1, demo_hearsFor _, whole_of_check _ rfl, by decide +kernel⟩

/-- For CancelEndsMove. -/
theorem test_witness_cancel_pending : ∃ (s : State) (i : StationId),
    s.HearsFor i ∧ (s.st i).sched.pending = false ∧ (s.st i).gap.queue ≠ [] :=
  ⟨demo (withGap fun g => { g with queue := [entry] }), 1, demo_hearsFor _, by decide +kernel⟩

/-- For CancelEndsMove. -/
theorem test_witness_cancel_active : ∃ (s : State) (i : StationId) (m : Move),
    s.HearsFor i ∧ (s.st i).gap.Whole ∧ ((s.st i).gap.state = .moving ∨ (s.st i).gap.state = .suspended) ∧
    (s.st i).gap.move = some m ∧ (s.st i).gap.dryRun = false ∧ (s.st i).gap.queue ≠ [] :=
  ⟨demo (withGap fun g => { g with state := .moving, move := some settling, queue := [entry] }), 1, settling,
   demo_hearsFor _, whole_of_check _ rfl, by decide +kernel⟩

/-- For CancelEndsMove. -/
theorem test_witness_cancel_all : ∃ (s : State) (i : StationId) (m : Move),
    s.HearsFor i ∧ (s.st i).gap.Whole ∧ ((s.st i).gap.state = .moving ∨ (s.st i).gap.state = .suspended) ∧
    (s.st i).gap.move = some m ∧ (s.st i).gap.dryRun = false ∧ (s.st i).gap.queue ≠ [] ∧
    (s.st i).sched.pending = false :=
  ⟨demo (withGap fun g => { g with state := .suspended, move := some (workedMove .parked), queue := [entry] }), 1,
   workedMove .parked, demo_hearsFor _, whole_of_check _ rfl, by decide +kernel⟩

/-- For CancelEndsMove. -/
theorem test_witness_cancel_context : ∃ (s : State) (i : StationId) (c : Context),
    s.HearsFor i ∧ (s.st i).gap.Whole ∧ (s.st i).gap.dryRun = false ∧
    ((s.st i).gap.state = .relieved ∨ (s.st i).gap.state = .restoring) ∧ (s.st i).gap.context = some c ∧
    (s.st i).sched.pending = false :=
  ⟨demo (withGap fun g => { g with
      state := .restoring, move := some restoring, context := some ⟨workedMove .parked, false⟩ }),
   1, ⟨workedMove .parked, false⟩, demo_hearsFor _, whole_of_check _ rfl, by decide +kernel⟩

/-- For CancelEndsMove. -/
theorem test_witness_cancel_nothing : ∃ (s : State) (i : StationId),
    s.HearsFor i ∧ (s.st i).gap.Whole ∧ (s.st i).gap.dryRun = false ∧ (s.st i).gap.state ≠ .moving ∧
    (s.st i).gap.state ≠ .suspended ∧ (s.st i).gap.context = none :=
  ⟨demo idleSt, 1, demo_hearsFor _, whole_of_check _ rfl, by decide +kernel⟩

/-- For SuspendAndResume. -/
theorem test_witness_suspend_at_once : ∃ (s : State) (i : StationId) (m : Move),
    s.HearsFor i ∧ (s.st i).gap.Whole ∧ (s.st i).gap.state = .moving ∧ (s.st i).gap.move = some m ∧
    m.pendingSuspend = false ∧ (s.st i).gap.dryRun = false ∧ m.dwell = none :=
  ⟨demo (moving settling), 1, settling, demo_hearsFor _, whole_of_check _ rfl, by decide +kernel⟩

/-- For SuspendAndResume. -/
theorem test_witness_suspend_in_dwell : ∃ (s : State) (i : StationId) (m : Move),
    s.HearsFor i ∧ (s.st i).gap.Whole ∧ (s.st i).gap.state = .moving ∧ (s.st i).gap.move = some m ∧
    m.pendingSuspend = false ∧ (s.st i).gap.dryRun = false ∧ m.dwell ≠ none :=
  ⟨demo (moving dwelling), 1, dwelling, demo_hearsFor _, whole_of_check _ rfl, by decide +kernel⟩

/-- For SuspendAndResume. -/
theorem test_witness_suspend_in_dry_run : ∃ (s : State) (i : StationId) (p : Nat) (m : Move),
    s.HearsFor i ∧ (s.st i).gap.Whole ∧ (s.st i).gap.state = .moving ∧ (s.st i).gap.move = some m ∧
    m.pendingSuspend = false ∧ m.dwell = none ∧ (s.st i).gap.dryRun = true ∧ (s.st i).gap.sim = some p :=
  ⟨demo (withGap fun g => { g with
      state := .moving, move := some { workedMove (.pulse 76000000 460) with dir := some .closing }, dryRun := true,
      sim := some 38500 }),
   1, 38500, { workedMove (.pulse 76000000 460) with dir := some .closing }, demo_hearsFor _, whole_of_check _ rfl,
   by decide +kernel⟩

/-- For SuspendAndResume. -/
theorem test_witness_suspend_already_pending : ∃ (s : State) (i : StationId) (m : Move),
    s.HearsFor i ∧ (s.st i).gap.state = .moving ∧ (s.st i).gap.move = some m ∧ m.pendingSuspend = true :=
  ⟨demo (moving { dwelling with pendingSuspend := true }), 1, { dwelling with pendingSuspend := true },
   demo_hearsFor _, by decide +kernel⟩

/-- For SuspendAndResume. -/
theorem test_witness_resume_of_nothing : ∃ (s : State) (i : StationId) (m : Move),
    s.HearsFor i ∧ (s.st i).gap.state = .moving ∧ (s.st i).gap.move = some m ∧ m.pendingSuspend = false :=
  ⟨demo (moving settling), 1, settling, demo_hearsFor _, by decide +kernel⟩

/-- For SuspendAndResume. -/
theorem test_witness_resume_context : ∃ (s : State) (i : StationId) (c : Context),
    s.HearsFor i ∧ (s.st i).gap.state ≠ .moving ∧
    ((s.st i).gap.state = .relieved ∨ (s.st i).gap.state = .restoring) ∧ (s.st i).gap.context = some c ∧
    c.suspended = true :=
  ⟨demo (withGap fun g => { g with state := .relieved, context := some ⟨workedMove .parked, true⟩ }), 1,
   ⟨workedMove .parked, true⟩, demo_hearsFor _, by decide +kernel⟩

/-- For SuspendAndResume. -/
theorem test_witness_resume_running_context : ∃ (s : State) (i : StationId),
    s.HearsFor i ∧
    ((s.st i).gap.state = .relieved ∨ (s.st i).gap.state = .restoring → ∀ c,
      (s.st i).gap.context = some c → c.suspended = false) ∧
    (s.st i).gap.state = .restoring :=
  ⟨demo (withGap fun g => { g with
      state := .restoring, move := some restoring, context := some ⟨workedMove .parked, false⟩ }),
   1, demo_hearsFor _,
    fun _ _ h => by
      cases Option.some.inj (show some (⟨workedMove .parked, false⟩ : Context) = some _ from h); rfl,
   by decide +kernel⟩

/-- For SuspendAndResume. -/
theorem test_witness_resume : ∃ (s : State) (i : StationId) (eff : Nat) (m : Move),
    s.HearsFor i ∧ (s.st i).gap.state = .suspended ∧ (s.st i).gap.move = some m ∧ m.eff = some eff :=
  ⟨demo (withGap fun g => { g with state := .suspended, move := some (workedMove .parked) }), 1, 18500,
   workedMove .parked, demo_hearsFor _, by decide +kernel⟩

/-- For CalibrateBeginsDrain. -/
theorem test_witness_calibrate : ∃ (s : State) (i : StationId) (p : Nat),
    s.HearsFor i ∧ (s.st i).FeedHolds ∧ ((s.st i).gap.state = .idle ∨ (s.st i).gap.state = .unreferenced) ∧
    (s.st i).posInUse = some p :=
  ⟨demo (withGap fun g => { g with state := .unreferenced }), 1, 38500, demo_hearsFor _, feedHolds_of_check _ rfl,
   by decide +kernel⟩

/-- For ChangeLinersClearsWear. -/
theorem test_witness_change_liners : ∃ (s : State) (i : StationId),
    s.HearsFor i ∧ ((s.st i).gap.state = .idle ∨ (s.st i).gap.state = .unreferenced) ∧ (s.st i).feed.output = 0 :=
  ⟨demo idleSt, 1, demo_hearsFor _, by decide +kernel⟩

/-- For ChangeLinersClearsWear. -/
theorem test_witness_change_liners_while_feeding : ∃ (s : State) (i : StationId),
    s.HearsFor i ∧ ((s.st i).gap.state = .idle ∨ (s.st i).gap.state = .unreferenced) ∧ (s.st i).feed.output ≠ 0 :=
  ⟨demo { idleSt with feed := { idleSt.feed with output := 1 } }, 1, demo_hearsFor _, by decide +kernel⟩

/-- For ChangeLinersClearsWear. -/
theorem test_witness_change_liners_behind_busy_writer : ∃ (s : State) (i : StationId),
    s.HearsFor i ∧ ((s.st i).gap.state = .idle ∨ (s.st i).gap.state = .unreferenced) ∧ (s.st i).feed.output = 0 ∧
    s.writer ≠ .idle :=
  ⟨{ demo idleSt with writer := .station 2 workedRecord 80000000 }, 1, ⟨⟨rfl, rfl, by decide⟩, rfl⟩,
   by decide +kernel⟩

/-- For TuneGapAndSetLimits. -/
theorem test_witness_set_limits : ∃ (s : State) (i : StationId) (v : Limits),
    s.HearsFor i ∧ v.cssMin ≤ v.cssMax ∧ v.pMin ≤ v.pMax :=
  ⟨demo idleSt, 1, { limitsDefault with cssMin := 500, cssMax := 500 }, demo_hearsFor _, by decide +kernel⟩

/-- For IsolateAndRelease. -/
theorem test_witness_isolate : ∃ (s : State) (i : StationId),
    s.HearsFor i ∧ (s.st i).gap.Whole ∧ (s.st i).FeedHolds ∧
    ((s.st i).gap.state = .idle ∨ (s.st i).gap.state = .unreferenced ∨ (s.st i).gap.state = .moving ∨
      (s.st i).gap.state = .suspended) :=
  ⟨demo (moving settling), 1, demo_hearsFor _, whole_of_check _ rfl, feedHolds_of_check _ rfl, by decide +kernel⟩

/-- For IsolateAndRelease. -/
theorem test_witness_release_isolate : ∃ (s : State) (i : StationId),
    s.HearsFor i ∧ (s.st i).gap.state = .isolated ∧ (s.st i).pos.valid = true :=
  ⟨demo (withGap fun g => { g with state := .isolated }), 1, demo_hearsFor _, by decide +kernel⟩

/-- For IsolateAndRelease. -/
theorem test_witness_release_isolate_position_lost : ∃ (s : State) (i : StationId),
    s.HearsFor i ∧ (s.st i).gap.state = .isolated ∧ (s.st i).gap.dryRun = false ∧ (s.st i).pos.valid = false :=
  ⟨demo { (withGap fun g => { g with state := .isolated }) with pos := positionChannelFresh }, 1, demo_hearsFor _,
   by decide +kernel⟩

/-- For DryRunOnAndOff. -/
theorem test_witness_dry_run_on : ∃ (s : State) (i : StationId) (p : Nat),
    s.HearsFor i ∧ (s.st i).FeedHolds ∧ ((s.st i).gap.state = .idle ∨ (s.st i).gap.state = .unreferenced) ∧
    (s.st i).posInUse = some p ∧ (s.st i).gap.dryRun = false :=
  ⟨demo idleSt, 1, 38500, demo_hearsFor _, feedHolds_of_check _ rfl, by decide +kernel⟩

/-- For DryRunOnAndOff. -/
theorem test_witness_dry_run_off : ∃ (s : State) (i : StationId),
    s.HearsFor i ∧ ((s.st i).gap.state = .idle ∨ (s.st i).gap.state = .unreferenced) ∧ (s.st i).gap.dryRun = true :=
  ⟨demo (withGap fun g => { g with dryRun := true, sim := some 38500 }), 1, demo_hearsFor _, by decide +kernel⟩

/-- For TestTrampTakesOnset. -/
theorem test_witness_test_tramp : ∃ (s : State) (i : StationId) (p : Nat),
    s.HearsFor i ∧ (s.st i).gap.state = .idle ∧ (s.st i).gap.dryRun = true ∧ (s.st i).gap.testTimer = none ∧
    (s.st i).gap.sim = some p ∧ (s.st i).gap.onsets.length + 1 < (s.st i).record.gapTuning.trampLimit :=
  ⟨demo (withGap fun g => { g with dryRun := true, sim := some 599, onsets := [500] }), 1, 599, demo_hearsFor _,
   by decide +kernel⟩

/-- For TestTrampTakesOnset. -/
theorem test_witness_test_tramp_outside_dry_run : ∃ (s : State) (i : StationId),
    s.HearsFor i ∧ (s.st i).gap.dryRun = false :=
  ⟨demo idleSt, 1, demo_hearsFor _, by decide +kernel⟩

/-- For TestTrampTakesOnset. -/
theorem test_witness_test_tramp_busy : ∃ (s : State) (i : StationId),
    s.HearsFor i ∧ (s.st i).gap.dryRun = true ∧ (s.st i).gap.testTimer ≠ none :=
  ⟨demo (withGap fun g => { g with dryRun := true, sim := some 38500, testTimer := some 90000000 }), 1,
   demo_hearsFor _, by decide +kernel⟩

/-- For TestTrampTakesOnset. -/
theorem test_witness_test_tramp_cuts_pulse : ∃ (s : State) (i : StationId) (p : Nat),
    s.HearsFor i ∧ (s.st i).gap.Whole ∧ (s.st i).FeedHolds ∧ (s.st i).ReasonsAgree ∧ (s.st i).gap.dryRun = true ∧
    (s.st i).gap.testTimer = none ∧ (s.st i).gap.sim = some p ∧ (s.st i).gap.state = .moving ∧
    (s.st i).gap.onsets = [] :=
  ⟨demo { (withGap fun g => { g with
      state := .moving, move := some { workedMove (.pulse 76000000 460) with dir := some .closing }, dryRun := true,
      sim := some 38500 }) with
      feed := { feedRegulatorFresh feedTuningDefault with gapMove := true, stops := { noStops with dryRun := true } } },
   1, 38500, demo_hearsFor _, whole_of_check _ rfl, feedHolds_of_check _ rfl, ⟨rfl, rfl, rfl⟩, by decide +kernel⟩

/-- For TestTrampTakesOnset. -/
theorem test_witness_test_tramp_in_calibrating : ∃ (s : State) (i : StationId) (p : Nat),
    s.HearsFor i ∧ (s.st i).gap.Whole ∧ (s.st i).FeedHolds ∧ (s.st i).ReasonsAgree ∧ (s.st i).gap.dryRun = true ∧
    (s.st i).gap.testTimer = none ∧ (s.st i).gap.sim = some p ∧ (s.st i).gap.state = .calibrating :=
  ⟨demo { (withGap fun g => { g with
      state := .calibrating, calibration := some draining, dryRun := true, sim := some 38500 }) with
      feed := { feedRegulatorFresh feedTuningDefault with
      stops := { noStops with calibration := true, dryRun := true } } },
   1, 38500, demo_hearsFor _, whole_of_check _ rfl, feedHolds_of_check _ rfl, ⟨rfl, rfl, rfl⟩, by decide +kernel⟩

/-- For TestTrampTakesOnset. -/
theorem test_witness_test_tramp_in_restoring : ∃ (s : State) (i : StationId) (p : Nat),
    s.HearsFor i ∧ (s.st i).gap.Whole ∧ (s.st i).FeedHolds ∧ (s.st i).ReasonsAgree ∧ (s.st i).gap.dryRun = true ∧
    (s.st i).gap.testTimer = none ∧ (s.st i).gap.sim = some p ∧ (s.st i).gap.state = .restoring :=
  ⟨demo { (withGap fun g => { g with
      state := .restoring, move := some restoring, context := some ⟨workedMove .parked, true⟩, dryRun := true,
      sim := some 38500 }) with
      feed := { feedRegulatorFresh feedTuningDefault with stops := { noStops with tramp := true, dryRun := true } } },
   1, 38500, demo_hearsFor _, whole_of_check _ rfl, feedHolds_of_check _ rfl, ⟨rfl, rfl, rfl⟩, by decide +kernel⟩

/-- For TestTrampTakesOnset. -/
theorem test_witness_test_tramp_in_isolated : ∃ (s : State) (i : StationId) (p : Nat),
    s.HearsFor i ∧ (s.st i).gap.Whole ∧ (s.st i).FeedHolds ∧ (s.st i).ReasonsAgree ∧ (s.st i).gap.dryRun = true ∧
    (s.st i).gap.testTimer = none ∧ (s.st i).gap.sim = some p ∧ (s.st i).gap.state = .isolated ∧
    (s.st i).record.gapTuning.trampLimit ≤ (listOnset (s.st i).record.gapTuning.trampWindow s.runningTime (s.st i).gap.onsets).length :=
  ⟨demo { (withGap fun g => { g with
      state := .isolated, onsets := [500, 900], dryRun := true, sim := some 599 }) with
      feed := { feedRegulatorFresh feedTuningDefault with
      stops := { noStops with isolated := true, dryRun := true } } },
   1, 599, demo_hearsFor _, whole_of_check _ rfl, feedHolds_of_check _ rfl, ⟨rfl, rfl, rfl⟩, by decide +kernel⟩

/-- For TestTrampTakesOnset. -/
theorem test_witness_test_tramp_at_limit_in_moving : ∃ (s : State) (i : StationId) (p : Nat),
    s.HearsFor i ∧ (s.st i).gap.Whole ∧ (s.st i).FeedHolds ∧ (s.st i).ReasonsAgree ∧ (s.st i).gap.dryRun = true ∧
    (s.st i).gap.testTimer = none ∧ (s.st i).gap.sim = some p ∧ (s.st i).gap.state = .moving ∧
    (s.st i).record.gapTuning.trampLimit ≤ (listOnset (s.st i).record.gapTuning.trampWindow s.runningTime (s.st i).gap.onsets).length :=
  ⟨demo { (withGap fun g => { g with
      state := .moving, move := some settling, onsets := [500, 900], dryRun := true, sim := some 38500 }) with
      feed := { feedRegulatorFresh feedTuningDefault with gapMove := true, stops := { noStops with dryRun := true } } },
   1, 38500, demo_hearsFor _, whole_of_check _ rfl, feedHolds_of_check _ rfl, ⟨rfl, rfl, rfl⟩, by decide +kernel⟩

/-- For TestTrampTakesOnset. -/
theorem test_witness_test_tramp_at_limit_in_relieved : ∃ (s : State) (i : StationId) (p : Nat),
    s.HearsFor i ∧ (s.st i).gap.Whole ∧ (s.st i).FeedHolds ∧ (s.st i).ReasonsAgree ∧ (s.st i).gap.dryRun = true ∧
    (s.st i).gap.testTimer = none ∧ (s.st i).gap.sim = some p ∧ (s.st i).gap.state = .relieved ∧
    (s.st i).gap.context ≠ none ∧
    (s.st i).record.gapTuning.trampLimit ≤ (listOnset (s.st i).record.gapTuning.trampWindow s.runningTime (s.st i).gap.onsets).length :=
  ⟨demo { (withGap fun g => { g with
      state := .relieved, onsets := [500, 900], context := some ⟨workedMove .parked, true⟩, dryRun := true,
      sim := some 38500 }) with
      feed := { feedRegulatorFresh feedTuningDefault with stops := { noStops with tramp := true, dryRun := true } } },
   1, 38500, demo_hearsFor _, whole_of_check _ rfl, feedHolds_of_check _ rfl, ⟨rfl, rfl, rfl⟩, by decide +kernel⟩

/-- For HaltBringsToRest. -/
theorem test_witness_halt_in_moving : ∃ (s : State) (i : StationId) (n : Nat) (bcast : Bool) (m : Move),
    s.HearsFrame bcast ∧ s.Names n i ∧
    (∀ j, s.Names n j → (s.st j).gap.Whole ∧ (s.st j).FeedHolds ∧ (s.st j).ReasonsAgree) ∧
    (s.st i).gap.state = .moving ∧ (s.st i).gap.move = some m :=
  ⟨demo { (moving settling) with feed := { feedRegulatorFresh feedTuningDefault with gapMove := true } }, 1, 1,
   false, settling, ⟨rfl, rfl, .inr (by decide)⟩, ⟨by decide +kernel, .inl rfl⟩, rested _ (by decide +kernel),
   by decide +kernel⟩

/-- For HaltBringsToRest. -/
theorem test_witness_halt_in_relieved : ∃ (s : State) (i : StationId) (n : Nat) (bcast : Bool),
    s.HearsFrame bcast ∧ s.Names n i ∧
    (∀ j, s.Names n j → (s.st j).gap.Whole ∧ (s.st j).FeedHolds ∧ (s.st j).ReasonsAgree) ∧
    (s.st i).gap.state = .relieved :=
  ⟨demo { (withGap fun g => { g with state := .relieved, pSave := some 38500, holdTimer := some 90000000 }) with
      feed := { feedRegulatorFresh feedTuningDefault with stops := { noStops with tramp := true } } },
   1, 1, false, ⟨rfl, rfl, .inr (by decide)⟩, ⟨by decide +kernel, .inl rfl⟩, rested _ (by decide +kernel),
   by decide +kernel⟩

/-- For HaltBringsToRest. -/
theorem test_witness_halt_in_calibrating : ∃ (s : State) (i : StationId) (n : Nat) (bcast : Bool),
    s.HearsFrame bcast ∧ s.Names n i ∧
    (∀ j, s.Names n j → (s.st j).gap.Whole ∧ (s.st j).FeedHolds ∧ (s.st j).ReasonsAgree) ∧
    (s.st i).gap.state = .calibrating :=
  ⟨demo { (withGap fun g => { g with state := .calibrating, calibration := some draining }) with
      feed := { feedRegulatorFresh feedTuningDefault with stops := { noStops with calibration := true } } },
   1, 1, true, ⟨rfl, rfl, .inr (by decide)⟩, ⟨by decide +kernel, .inl rfl⟩, rested _ (by decide +kernel),
   by decide +kernel⟩

/-- For HaltBringsToRest. -/
theorem test_witness_halt_broadcast_to_all : ∃ (s : State) (n : Nat) (bcast : Bool) (i : StationId) (l : OpenLot),
    s.HearsFrame bcast ∧ (∀ j, s.Names n j → (s.st j).gap.Whole ∧ (s.st j).FeedHolds ∧ (s.st j).ReasonsAgree) ∧
    n = 255 ∧ s.link.addr = 0 ∧ (s.st i).lots.lot = some l ∧ s.lotQueue.length = 12 :=
  ⟨{ demo { idleSt with lots := ⟨some openLot, 6, none, 20000, 0⟩ } with
      link := { linkFresh with rx := .listen }, lotQueue := List.replicate 12 ⟨1, 0, 0, .cut, none, none, none, 0⟩ },
   255, true, 1, openLot, ⟨rfl, rfl, .inl rfl⟩, rested _ (by decide +kernel), by decide +kernel⟩

/-- For ResetStationRestores. -/
theorem test_witness_reset_station_cuts_lot : ∃ (s : State) (i : StationId) (l : OpenLot),
    s.HearsFor i ∧ (s.st i).lots.lot = some l ∧ s.lotQueue = [] :=
  ⟨demo { idleSt with lots := ⟨some openLot, 6, none, 20000, 0⟩ }, 1, openLot, demo_hearsFor _, by decide +kernel⟩

/-- For ClearFaultTestsCause. -/
theorem test_witness_clear_fault_ignored : ∃ (s : State) (i : StationId),
    s.HearsFor i ∧ (s.st i).gap.state ≠ .faulted :=
  ⟨demo (withGap fun g => { g with state := .idle }), 1, demo_hearsFor _, by decide +kernel⟩

/-- For ClearFaultTestsCause. -/
theorem test_witness_clear_fault_refused : ∃ (s : State) (i : StationId),
    s.HearsFor i ∧ (s.st i).gap.state = .faulted ∧ (s.st i).gap.cause = some .positionLost ∧
    (s.st i).pos.valid = false :=
  ⟨demo { (withGap fun g => { g with state := .faulted, cause := some .positionLost }) with
      pos := positionChannelFresh },
   1, demo_hearsFor _, by decide +kernel⟩

/-- For ClearFaultTestsCause. -/
theorem test_witness_clear_fault_done : ∃ (s : State) (i : StationId),
    s.HearsFor i ∧ (s.st i).gap.state = .faulted ∧ (s.st i).gap.cause = some .trampRepeat ∧
    (s.st i).tramp.level = false :=
  ⟨demo (withGap fun g => { g with state := .faulted, cause := some .trampRepeat, onsets := [0, 1, 2] }), 1,
   demo_hearsFor _, by decide +kernel⟩

/-- For ReadingAnswersRecords. -/
theorem test_witness_record_lengths : ∃ (st : Station),
    st.gap.queue.length ≤ 4 ∧ st.record.history.length ≤ 8 :=
  ⟨withGap fun g => { g with queue := List.replicate 4 entry }, by decide +kernel⟩

/-- For ClearAttentionClears and MaskAndRaiseAttention. -/
theorem test_witness_clear_attention : ∃ (s : State) (xs : List Nat),
    s.Hearing ∧ xs.length ≤ 36 ∧ (∀ n ∈ xs, n ≤ 35) :=
  ⟨demo idleSt, List.range 36, demo_hears _, by decide +kernel⟩

/-- For ClearAttentionClears. -/
theorem test_witness_clear_attention_refused : ∃ (s : State) (xs : List Nat),
    s.Hearing ∧ xs.length ≤ 36 ∧ (∃ n ∈ xs, 35 < n) :=
  ⟨demo idleSt, [36], demo_hears _, by decide +kernel⟩

/-- For StoreWritesRecords. -/
theorem test_witness_store_idle : ∃ (s : State),
    s.Hearing ∧ s.writer = .idle :=
  ⟨demo idleSt, demo_hears _, by decide +kernel⟩

/-- For StoreWritesRecords. -/
theorem test_witness_store_busy : ∃ (s : State),
    s.Hearing ∧ s.writer ≠ .idle :=
  ⟨{ demo idleSt with writer := .device deviceRecordDefault 80000000 }, ⟨rfl, rfl, by decide⟩, by decide +kernel⟩

/-- For StoreWritesRecords. -/
theorem test_witness_write_completes_in_sequence :
    ∃ (s : State) (since : Ticks) (i : StationId) (rest : List StationId),
    s.phase = .running ∧ s.writer.since = some since ∧ s.inSequence = true ∧ s.storeSeq = i :: rest :=
  ⟨{ demo idleSt with writer := .device deviceRecordDefault 80000000, inSequence := true, storeSeq := [0, 1] },
   80000000, 0, [1], by decide +kernel⟩

/-- For StoreWritesRecords. -/
theorem test_witness_write_completes_to_pending : ∃ (s : State) (since : Ticks) (i : StationId),
    s.phase = .running ∧ s.writer.since = some since ∧ (s.inSequence = false ∨ s.storeSeq = []) ∧
    setHas s.pendingWrites i = true ∧ (∀ j, j < i → setHas s.pendingWrites j = false) :=
  ⟨{ demo idleSt with writer := .station 1 workedRecord 80000000, pendingWrites := 0x0A#8 }, 80000000, 1,
   by decide +kernel⟩

/-- For PanelStreamsFrames. -/
theorem test_witness_panel_frame : ∃ (s : State),
    s.phase = .running ∧ s.panel.startedAt ≤ s.clock :=
  ⟨demo idleSt, by decide +kernel⟩

/-- For PanelStreamsFrames. -/
theorem test_witness_panel_bit : ∃ (s : State) (k : Nat),
    s.phase = .running ∧ s.panel.index = some k ∧ k < 23 :=
  ⟨{ demo idleSt with panel := ⟨List.replicate 24 true, some 22, 80000000⟩ }, 22, by decide +kernel⟩

/-- For LinkDiscardsFrames. -/
theorem test_witness_receiving : ∃ (s : State),
    s.phase = .running ∧ s.link.rx = .receive :=
  ⟨{ demo idleSt with link := { linkFresh with rx := .receive } }, by decide +kernel⟩

/-- For LinkDiscardsFrames. -/
theorem test_witness_resync : ∃ (s : State),
    s.phase = .running ∧ s.link.rx = .resync :=
  ⟨{ demo idleSt with link := { linkFresh with rx := .resync } }, by decide +kernel⟩

/-- For LinkDiscardsFrames. -/
theorem test_witness_replying : ∃ (s : State),
    s.phase = .running ∧ s.link.rx = .reply :=
  ⟨{ demo idleSt with link := { linkFresh with rx := .reply } }, by decide +kernel⟩

/-- For RepliesGoOut. -/
theorem test_witness_unknown_kind : ∃ (s : State) (kind : Byte),
    s.Hearing ∧ kindUnassigned kind = true :=
  ⟨demo idleSt, 0x1D#8, demo_hears _, by decide +kernel⟩

/-- For RepliesGoOut. -/
theorem test_witness_reply_starts : ∃ (s : State),
    s.phase = .running ∧ s.link.rx = .reply ∧ s.link.driving = none ∧ s.clock ≤ s.link.takenAt + 20000 :=
  ⟨{ demo idleSt with link := { linkFresh with rx := .reply, takenAt := 79980000 } }, by decide +kernel⟩

/-- For RepliesGoOut. -/
theorem test_witness_reply_completes : ∃ (s : State) (since : Ticks),
    s.phase = .running ∧ s.link.driving = some since :=
  ⟨{ demo idleSt with link := { linkFresh with rx := .reply, driving := some 80000000 } }, 80000000,
   by decide +kernel⟩

/-- For CharactersFormFrames. -/
theorem test_witness_listening : ∃ (s : State),
    s.phase = .running ∧ s.link.rx = .listen :=
  ⟨demo idleSt, by decide +kernel⟩

/-- For CharactersFormFrames. -/
theorem test_witness_character_of_header : ∃ (s : State) (dt : Ticks),
    s.phase = .running ∧ s.link.rx = .receive ∧ s.link.lastChar ≤ s.clock ∧
    (dt + (s.clock - s.link.lastChar)) * s.link.bitRate ≤ 80000 * s.link.bitRate + 400000000 ∧
      s.link.frame.length = 1 :=
  ⟨{ demo idleSt with link := { linkFresh with
      addr := 7, rx := .receive, lastChar := 80000000
      frame := [0x07] } },
   86944, by decide +kernel⟩

/-- For CharactersFormFrames. -/
theorem test_witness_length_above_200 : ∃ (s : State) (dt : Ticks) (c : Byte),
    s.phase = .running ∧ s.link.rx = .receive ∧ s.link.lastChar ≤ s.clock ∧
    (dt + (s.clock - s.link.lastChar)) * s.link.bitRate ≤ 80000 * s.link.bitRate + 400000000 ∧
    s.link.frame.length = 2 ∧ c.toNat = 201 :=
  ⟨{ demo idleSt with link := { linkFresh with
      addr := 7, rx := .receive, lastChar := 80000000
      frame := [0x07, 0x11] } },
   6944, 0xC9#8, by decide +kernel⟩

/-- For CharactersFormFrames. -/
theorem test_witness_character_of_payload : ∃ (s : State) (dt : Ticks) (n : Byte),
    s.phase = .running ∧ s.link.rx = .receive ∧ s.link.lastChar ≤ s.clock ∧
    (dt + (s.clock - s.link.lastChar)) * s.link.bitRate ≤ 80000 * s.link.bitRate + 400000000 ∧
    s.link.frame[2]? = some n ∧ n.toNat ≤ 200 ∧ s.link.frame.length < 3 + n.toNat :=
  ⟨{ demo idleSt with link := { linkFresh with
      addr := 7, rx := .receive, lastChar := 80000000
      frame := [0x07, 0x11, 0x01] } },
   6944, 0x01#8, by decide +kernel⟩

/-- For CharactersFormFrames. -/
theorem test_witness_first_crc_byte : ∃ (s : State) (dt : Ticks) (n : Byte),
    s.phase = .running ∧ s.link.rx = .receive ∧ s.link.lastChar ≤ s.clock ∧
    (dt + (s.clock - s.link.lastChar)) * s.link.bitRate ≤ 80000 * s.link.bitRate + 400000000 ∧
    s.link.frame[2]? = some n ∧ n.toNat ≤ 200 ∧ s.link.frame.length = 3 + n.toNat :=
  ⟨{ demo idleSt with link := { linkFresh with
      addr := 7, rx := .receive, lastChar := 80000000
      frame := [0x07, 0x11, 0x01, 0xFF] } },
   6944, 0x01#8, by decide +kernel⟩

/-- For CharactersFormFrames. -/
theorem test_witness_character_after_gap : ∃ (s : State) (dt : Ticks),
    s.phase = .running ∧ s.link.rx = .receive ∧ s.link.lastChar ≤ s.clock ∧
    ¬ (dt + (s.clock - s.link.lastChar)) * s.link.bitRate ≤ 80000 * s.link.bitRate + 400000000 ∧
    (dt + (s.clock - s.link.lastChar)) * s.link.bitRate ≤ 160000 * s.link.bitRate + 400000000 :=
  ⟨{ demo idleSt with link := { linkFresh with
      addr := 7, rx := .receive, lastChar := 80000000
      frame := [0x07] } },
   86945, by decide +kernel⟩

/-- For CharactersFormFrames. -/
theorem test_witness_last_crc_byte : ∃ (s : State) (dt : Ticks) (addr kind : Byte) (payload : List Byte),
    s.phase = .running ∧ s.link.rx = .receive ∧ payload.length ≤ 200 ∧
    s.link.frame =
      [addr, kind, BitVec.ofNat 8 payload.length] ++ payload ++ [BitVec.ofNat 8 (s.link.crc.toNat / 256)] ∧
    s.link.lastChar ≤ s.clock ∧
    (dt + (s.clock - s.link.lastChar)) * s.link.bitRate ≤ 80000 * s.link.bitRate + 400000000 :=
  ⟨{ demo idleSt with link := { linkFresh with
      addr := 7
      rx := .receive
      frame := [0x07, 0x11, 0x01, 0xFF] ++ [BitVec.ofNat 8 ((crc16 [0x07, 0x11, 0x01, 0xFF]).toNat / 256)]
      crc := crc16 [0x07, 0x11, 0x01, 0xFF], lastChar := 80000000 } },
   80000, 0x07#8, 0x11#8, [0xFF#8], by decide +kernel⟩

/-- For ConfigureDeviceSetsPresence. -/
theorem test_witness_configure_device :
    ∃ (s : State) (v : DeviceValues) (f : FilterClock) (q : PanelSet) (i j k : StationId),
    s.Hearing ∧ filterClockOf v.filterClock = some f ∧ panelSetOf v.panelSet = some q ∧ v.presence &&& 0xF0#8 = 0#8 ∧
    s.present i = true ∧ setHas v.presence i = false ∧ s.present j = false ∧ setHas v.presence j = true ∧
    s.present k = true ∧ setHas v.presence k = true :=
  ⟨{ demo idleSt with device := { deviceRecordDefault with presence := 0x03#8 } }, ⟨0x06#8, 1, 60, 50000, 100000, 1⟩,
   .khz1, .normal, 0, 2, 1, ⟨rfl, rfl, by decide⟩, by decide +kernel⟩

/-- For ConfigureDeviceSetsPresence. -/
theorem test_witness_configure_closes_lot :
    ∃ (s : State) (v : DeviceValues) (f : FilterClock) (q : PanelSet) (i : StationId) (l : OpenLot),
    s.Hearing ∧ filterClockOf v.filterClock = some f ∧ panelSetOf v.panelSet = some q ∧ v.presence &&& 0xF0#8 = 0#8 ∧
    s.present i = true ∧ setHas v.presence i = false ∧ (s.st i).lots.lot = some l ∧
    (∀ j, j ≠ i → (s.present j && !setHas v.presence j && (s.st j).lots.lot.isSome) = false) ∧ s.lotQueue.length = 12 :=
  ⟨{ demo { idleSt with lots := ⟨some openLot, 6, none, 20000, 0⟩ } with
      lotQueue := List.replicate 12 ⟨1, 0, 0, .cut, none, none, none, 0⟩ },
   ⟨0x0D#8, 2, 60, 50000, 100000, 2⟩, .hz250, .attention, 1, openLot, ⟨rfl, rfl, by decide⟩, by decide +kernel⟩

/-- For ConfigureDeviceSetsPresence. -/
theorem test_witness_configure_loses_lot :
    ∃ (s : State) (v : DeviceValues) (f : FilterClock) (q : PanelSet) (i : StationId) (l : OpenLot),
    s.Hearing ∧ filterClockOf v.filterClock = some f ∧ panelSetOf v.panelSet = some q ∧ v.presence &&& 0xF0#8 = 0#8 ∧
    s.present i = true ∧ setHas v.presence i = false ∧ (s.st i).lots.lot = some l ∧ s.lotQueue.length = 16 :=
  ⟨{ demo { idleSt with lots := ⟨some openLot, 6, none, 20000, 0⟩ } with
      lotQueue := List.replicate 16 ⟨1, 0, 0, .cut, none, none, none, 0⟩ },
   ⟨0x0D#8, 2, 60, 50000, 100000, 2⟩, .hz250, .attention, 1, openLot, ⟨rfl, rfl, by decide⟩, by decide +kernel⟩

/-- The state of the law witnesses: a MOVING station with its reason posted, and a panel frame waiting. -/
def lawful : State :=
  { demo { moving settling with feed := { feedRegulatorFresh feedTuningDefault with gapMove := true } } with
    pending := [.panelFrame] }

/-- For StepKeepsWearLaw. -/
theorem test_witness_wear_law : lawful.WearLaw ∧ ∃ t, step lawful = .next t :=
  ⟨by unfold State.WearLaw Station.WearHolds; decide +kernel, _, rfl⟩

/-- For StepKeepsFeedLaw. -/
theorem test_witness_feed_law : lawful.FeedLaw ∧ ∃ t, step lawful = .next t := by
  refine ⟨⟨fun i => ⟨?_, feedHolds_of_check _ ?_⟩, ?_, nofun⟩, _, rfl⟩
  · unfold RateRange; revert i; decide +kernel
  · revert i; decide +kernel
  · intro i r (h : storeBlank.station i = some r)
    simp at h

/-- For StepKeepsReasonLaw. -/
theorem test_witness_reason_law : lawful.ReasonLaw ∧ ∃ t, step lawful = .next t :=
  ⟨by unfold State.ReasonLaw Station.ReasonsAgree; decide +kernel, _, rfl⟩

theorem history_of_nil (r : StationRecord) (h : r.history = []) : r.HistoryHolds :=
  ⟨by simp [h], by simp [h], by simp [h]⟩

/-- For StepKeepsBounds. -/
theorem test_witness_bound_law : lawful.BoundLaw ∧ ∃ t, step lawful = .next t := by
  refine ⟨⟨by decide +kernel, fun i => ⟨?_, ?_, history_of_nil _ ?_⟩, ?_, nofun⟩, _, rfl⟩
  · revert i; decide +kernel
  · revert i; decide +kernel
  · revert i; decide +kernel
  · intro i r (h : storeBlank.station i = some r)
    simp at h

/-- For StepKeepsQueueLaw; its premise on the valves is the next theorem's. -/
theorem test_witness_queue_law : lawful.QueueLaw ∧ ∃ t, step lawful = .next t :=
  ⟨by unfold State.QueueLaw Station.QueueHolds Schedule.AsksNothing; decide +kernel, _, rfl⟩

/-- For StepKeepsValveLaw and StepKeepsQueueLaw. -/
theorem test_witness_valve_law : lawful.ValveLaw ∧ ∃ t, step lawful = .next t :=
  ⟨fun i => whole_of_check _ (by revert i; decide +kernel), _, rfl⟩

end Sys2Proof.Tests
end

section
/-!
PROOFS. Facts about the state that the proofs below share: updates of one station put together, what a reply leaves, and the hearing
of a request that names a station.
-/

namespace Sys2Proof

/-! ## Containers of four stations -/

/-- The last of two replacements counts. -/
theorem Quad.set_set {α : Type} (q : Quad α) (i : StationId) (a b : α) : (q.set i a).set i b = q.set i b := by
  refine Quad.ext_get fun j => ?_
  by_cases h : j = i
  · subst h
    simp
  · simp only [Quad.get_set_ne _ _ h]

/-- Replacing a value by itself changes nothing. -/
theorem Quad.set_get {α : Type} (q : Quad α) (i : StationId) : q.set i (q.get i) = q := by
  refine Quad.ext_get fun j => ?_
  by_cases h : j = i
  · subst h
    simp
  · rw [Quad.get_set_ne _ _ h]

namespace Machine

/-! ## Updates of one station -/

/-- Two changes of one station are one. -/
theorem State.modSt_modSt (s : State) (i : StationId) (f g : Station → Station) :
    (s.modSt i f).modSt i g = s.modSt i fun st => g (f st) := by
  show ({ s with stations := (s.stations.set i (f (s.st i))).set i (g ((s.modSt i f).st i)) } : State) =
    { s with stations := s.stations.set i (g (f (s.st i))) }
  rw [State.st_modSt_self, Quad.set_set]

/-- What a change does to the station it changes is all of it. -/
theorem State.modSt_congr {s : State} {i : StationId} {f g : Station → Station} (h : f (s.st i) = g (s.st i)) :
    s.modSt i f = s.modSt i g := by
  unfold State.modSt
  rw [h]

/-- A change that leaves its station leaves the state. -/
theorem State.modSt_of_fixed {s : State} {i : StationId} {f : Station → Station} (h : f (s.st i) = s.st i) :
    s.modSt i f = s := by
  show ({ s with stations := s.stations.set i (f (s.st i)) } : State) = s
  rw [h, State.st, Quad.set_get]

/-- A station of a state whose station `i` has been replaced. -/
theorem State.st_stationAt_self (s : State) (c : Ticks) (i : StationId) (st : Station) : (s.stationAt c i st).st i = st :=
  Quad.get_set_self _ _ _

theorem State.st_stationAt_ne (s : State) (c : Ticks) {i j : StationId} (st : Station) (h : j ≠ i) :
    (s.stationAt c i st).st j = s.st j :=
  Quad.get_set_ne _ _ h

/-! ## Requests and replies -/

/-- A completion weakens. -/
theorem Takes.imp {c : Instr} {s : State} {Q R : State → Prop} (h : Takes c s Q) (k : ∀ t, Q t → R t) :
    Takes c s R := by
  obtain ⟨t, e, q⟩ := h
  exact ⟨t, e, k t q⟩

/-- A heard request that names a present station is answered by that station's block, after the time has passed (R172, R173). -/
theorem answered_onNamed {s : State} {i : StationId} (h : s.HearsFor i) (dt : Ticks) (kind : Byte)
    (f : State → StationId → State × Answer) :
    s.answered dt kind (fun x => onNamed x i.val (f x)) = (f (s.elapse dt) i).1.reply kind (f (s.elapse dt) i).2 := by
  obtain ⟨⟨hrun, hears, haddr⟩, hpres⟩ := h
  have named : onNamed (s.elapse dt) i.val (f (s.elapse dt)) = f (s.elapse dt) i := onNamed_of _ i _ hpres
  rw [State.answered_of s dt kind _ hrun hears haddr, named]

theorem clampedOr_bne {α : Type} [DecidableEq α] (a b : α) (c : ResultCode) :
    clampedOr (a != b) c = answer (if a = b then c else .clamped) := by
  by_cases h : a = b
  · simp [clampedOr, h]
  · simp [clampedOr, h]

/-- A reply depends on the link and the clock alone (R173). -/
theorem reply_link_congr {s t : State} (link : t.link = s.link) (clock : t.clock = s.clock) (kind : Byte) (a : Answer) :
    (t.reply kind a).link = (s.reply kind a).link := by
  unfold State.reply
  rw [link, clock]

/-- A reply after work `dt` ticks on changes the clock, what the work changed, and the link. -/
theorem reply_frame {s w : State} {dt : Ticks}
    (work : ∃ q r l, w = { s.elapse dt with stations := q, raised := r, lotQueue := l }) (kind : Byte) (a : Answer) :
    w.reply kind a = { s with
      clock := s.clock + dt, stations := w.stations, raised := w.raised, lotQueue := w.lotQueue
      link := (w.reply kind a).link } := by
  obtain ⟨q, r, l, rfl⟩ := work
  rfl

end Machine
end Sys2Proof
end

section
/-!
PROOFS. The wear law (R27): W agrees with its formula at every station. A station's law depends on its record and its W alone, so the
work of the gap channel (`Works`) and the chain coupling (`ChainStep`) keep it; the operations that write M_cal, R or Wmax end with
`recomputeWear`, which sets W by its formula.
-/

namespace Sys2Proof.Machine

/-! ## What keeps the wear law -/

/-- The formula of W is at most Wmax (R27). -/
theorem wearEstimate_le (wMax mCal r : Nat) : wearEstimate wMax mCal r ≤ wMax := Nat.min_le_left _ _

theorem Station.WearHolds.le_wMax {st : Station} (h : st.WearHolds) : st.gap.w ≤ st.record.limits.wMax := by
  rw [h]
  exact wearEstimate_le _ _ _

/-- At power-on W is computed from the record (R27, R38). -/
theorem stationFresh_wearHolds (rec : StationRecord) : (stationFresh rec).WearHolds := rfl

/-- What the chain coupling may change is no part of the wear law. -/
theorem Station.Kept.wearHolds {a b : Station} (k : a.Kept b) (h : a.WearHolds) : b.WearHolds := by
  rw [k.1]
  exact h

/-- A change outside the stations keeps the wear law. -/
theorem State.WearLaw.of_stations {s t : State} (h : s.WearLaw) (e : t.stations = s.stations) : t.WearLaw := by
  intro j
  rw [State.st, e]
  exact h j

/-- A change of one station that keeps its wear law keeps the device's. -/
theorem State.WearLaw.modSt {s : State} (h : s.WearLaw) {i : StationId} {f : Station → Station}
    (k : (s.st i).WearHolds → (f (s.st i)).WearHolds) : (s.modSt i f).WearLaw := by
  intro j
  rw [State.st_modSt]
  split
  · subst_vars
    exact k (h _)
  · exact h j

/-- A change of one station's gap channel that leaves W keeps the wear law. -/
theorem State.WearLaw.modGap {s : State} (h : s.WearLaw) {i : StationId} {f : GapChannel → GapChannel}
    (k : (f (s.st i).gap).w = (s.st i).gap.w) : (s.modGap i f).WearLaw :=
  h.modSt fun hi => k.trans hi

/-- Work of the gap channel keeps the wear law. -/
theorem State.WearLaw.works {s t : State} {i : StationId} (h : s.WearLaw) (k : s.Works t i) : t.WearLaw := by
  obtain ⟨-, others, self⟩ := k
  intro j
  by_cases hj : j = i
  · subst hj
    exact self.wearHolds (h j)
  · rw [others j hj]
    exact h j

/-- The chain coupling keeps the wear law. -/
theorem State.WearLaw.chain {s t : State} (h : s.WearLaw) (k : s.ChainStep t) : t.WearLaw :=
  fun j => (k.2 j).wearHolds (h j)

theorem State.WearLaw.chainSettle {s : State} (h : s.WearLaw) : s.chainSettle.WearLaw := h.chain (chainSettle_step s)

/-- The end of an event keeps the wear law: it changes regulators alone. -/
theorem State.WearLaw.settleFeed {s : State} (h : s.WearLaw) (i : StationId) : (s.settleFeed i).WearLaw :=
  State.WearLaw.chainSettle (h.modSt id)

/-- `recomputeWear` sets W by its formula, whatever it was: the other stations' laws are enough (R27). -/
theorem recomputeWear_wearLaw {s : State} {i : StationId} (wasCapped : Bool) (h : ∀ j, j ≠ i → (s.st j).WearHolds) :
    (s.recomputeWear i wasCapped).WearLaw := by
  have k : (s.modSt i fun st => { st with gap := { st.gap with
      w := wearEstimate st.record.limits.wMax st.record.mCal st.record.r } }).WearLaw := by
    intro j
    rw [State.st_modSt]
    split
    · rfl
    · exact h j ‹_›
  unfold State.recomputeWear
  dsimp only
  split
  · exact k.of_stations rfl
  · exact k

/-- A change of one station followed by `recomputeWear` keeps the wear law, whatever it does to W and the record (R27). -/
theorem State.WearLaw.recompute {s : State} (h : s.WearLaw) {i : StationId} {f : Station → Station} (wasCapped : Bool) :
    ((s.modSt i f).recomputeWear i wasCapped).WearLaw :=
  recomputeWear_wearLaw wasCapped fun j hj => by
    rw [State.st_modSt_ne s f hj]
    exact h j

theorem State.WearLaw.recompute_both {s : State} (h : s.WearLaw) {i : StationId} {f : StationRecord → StationRecord}
    {g : GapChannel → GapChannel} (wasCapped : Bool) :
    (((s.modRecord i f).modGap i g).recomputeWear i wasCapped).WearLaw := by
  rw [State.modGap, State.modRecord, State.modSt_modSt]
  exact h.recompute wasCapped

/-- An operation over a list of stations keeps the wear law where each of its turns does. -/
theorem State.WearLaw.eachOf {s : State} (h : s.WearLaw) (is : List StationId) {f : State → StationId → State}
    (k : ∀ s i, s.WearLaw → (f s i).WearLaw) : (s.eachOf is f).WearLaw := by
  unfold State.eachOf
  induction is generalizing s with
  | nil => exact h
  | cons i is ih => exact ih (k s i h)

/-! ## The gates -/

theorem State.WearLaw.whenRunning {s : State} (h : s.WearLaw) {f : State → State} (k : ∀ s, s.WearLaw → (f s).WearLaw) :
    (s.whenRunning f).WearLaw := by
  unfold State.whenRunning
  split
  · exact k s h
  · exact h

theorem State.WearLaw.onStation {s : State} (h : s.WearLaw) {i : StationId} {f : State → State}
    (k : ∀ s, s.WearLaw → (f s).WearLaw) : (s.onStation i f).WearLaw := by
  unfold State.onStation
  split
  · exact k s h
  · exact h

theorem State.WearLaw.elapse {s : State} (h : s.WearLaw) (dt : Ticks) : (s.elapse dt).WearLaw := h.of_stations rfl

theorem State.WearLaw.reach {s : State} (h : s.WearLaw) (t : Ticks) : (s.reach t).WearLaw := h.of_stations rfl

theorem State.WearLaw.raise {s : State} (h : s.WearLaw) (i : StationId) (k : StationSource) : (s.raise i k).WearLaw :=
  h.of_stations rfl

theorem State.WearLaw.atExpiry {s : State} (h : s.WearLaw) {timer : Option Ticks} {f : State → State}
    (k : ∀ s, s.WearLaw → (f s).WearLaw) : (s.atExpiry timer f).WearLaw := by
  cases timer with
  | none => exact h
  | some t => exact k _ (h.reach t)

theorem State.WearLaw.atTimer {s : State} (h : s.WearLaw) {i : StationId} {timer : State → Option Ticks}
    {f : State → State} (k : ∀ s, s.WearLaw → (f s).WearLaw) : (s.onStation i fun s => s.atExpiry (timer s) f).WearLaw :=
  h.onStation fun _ h => h.atExpiry k

theorem State.WearLaw.ite {c : Prop} [Decidable c] {s t : State} (h : s.WearLaw) (k : t.WearLaw) :
    (if c then s else t).WearLaw := by
  split
  · exact h
  · exact k

theorem State.WearLaw.atFilterTick {s : State} (h : s.WearLaw) {i : StationId} {f : State → State}
    (k : ∀ s, s.WearLaw → (f s).WearLaw) : (s.atFilterTick i f).WearLaw :=
  h.onStation fun _ h => k _ (h.reach _)

/-- A request keeps the wear law, whatever it answers. -/
def KeepsWear (f : State → State × Answer) : Prop := ∀ s, s.WearLaw → (f s).1.WearLaw

theorem State.WearLaw.answered {s : State} (h : s.WearLaw) (dt : Ticks) (kind : Byte) {f : State → State × Answer}
    (k : KeepsWear f) : (s.answered dt kind f).WearLaw :=
  (h.elapse dt).whenRunning fun s h => by
    split
    · exact (k s h).of_stations rfl
    · exact h

theorem State.WearLaw.broadcast {s : State} (h : s.WearLaw) (dt : Ticks) {f : State → State × Answer} (k : KeepsWear f) :
    (s.broadcast dt f).WearLaw :=
  (h.elapse dt).whenRunning fun s h => by
    split
    · exact (k s h).of_stations rfl
    · exact h

theorem State.WearLaw.onNamed {s : State} (h : s.WearLaw) (st : Nat) {f : StationId → State × Answer}
    (k : ∀ i, (f i).1.WearLaw) : (onNamed s st f).1.WearLaw := by
  unfold Machine.onNamed
  split
  · split
    · exact k _
    · exact h
  · exact h

theorem State.WearLaw.onNamedOrAll {s : State} (h : s.WearLaw) (st : Nat) {f : List StationId → State × Answer}
    (k : ∀ is, (f is).1.WearLaw) : (onNamedOrAll s st f).1.WearLaw := by
  unfold Machine.onNamedOrAll
  split
  · exact k _
  · exact h.onNamed st fun i => k [i]

/-! ## Measurement channels and deliveries -/

theorem State.WearLaw.sampleDone {s : State} (h : s.WearLaw) (i : StationId) (p : Option Nat) :
    (s.sampleDone i p).WearLaw := by
  unfold State.sampleDone
  extract_lets st s1
  have sampled : s1.WearLaw := h.modSt id
  split
  · exact (sampled.works (Works.positionLost _ i)).settleFeed i
  · exact sampled

theorem State.WearLaw.modStops {s : State} (h : s.WearLaw) (i : StationId) (f : StopSet → StopSet) :
    (s.modStops i f).WearLaw := h.modSt id

theorem State.WearLaw.echoValidDone {s : State} (h : s.WearLaw) (i : StationId) (l : Nat) :
    (s.echoValidDone i l).WearLaw := by
  unfold State.echoValidDone
  extract_lets wasLost s1 s2
  have read : s1.WearLaw := h.modSt id
  refine State.WearLaw.works (s := s2) ?_ (Works.drainEval _ i)
  unfold s2
  split
  · exact State.WearLaw.settleFeed ((read.modStops i _).modSt id) i
  · exact read

theorem State.WearLaw.echoInvalidDone {s : State} (h : s.WearLaw) (i : StationId) : (s.echoInvalidDone i).WearLaw := by
  unfold State.echoInvalidDone
  extract_lets st s1 timer
  have counted : s1.WearLaw := h.modSt id
  split
  · exact State.WearLaw.works (State.WearLaw.raise (counted.modSt id) i _) (Works.drainEval _ i)
  · exact counted

theorem State.WearLaw.waitLoadExit {s : State} (h : s.WearLaw) (i : StationId) (reading : Nat) :
    (s.waitLoadExit i reading).WearLaw := by
  unfold State.waitLoadExit
  extract_lets st s1
  split
  · split
    · split
      · extract_lets pt
        have left : s1.WearLaw := h.works (Works.leavePhase s i)
        split
        · exact (left.works (Works.finishLoop s1 i _)).settleFeed i
        · exact ((left.works (Works.modMove _ i _)).works (Works.enterPulse _ i _)).settleFeed i
      · exact h
    · exact h
  · exact h

theorem State.WearLaw.powerEvent {s : State} (h : s.WearLaw) (i : StationId) (reading : Nat) :
    (s.powerEvent i reading).WearLaw :=
  (h.waitLoadExit i reading).works (Works.drainEval _ i)

theorem State.WearLaw.requestWrite {s : State} (h : s.WearLaw) (i : StationId) : (s.requestWrite i).WearLaw := by
  unfold State.requestWrite
  split
  · exact h.of_stations rfl
  · split
    · exact h
    · exact h.of_stations rfl

/-- A delivery to the gap channel adds to M_cal, and W follows (R25, R27). -/
theorem State.WearLaw.deliverToGap {s : State} (h : s.WearLaw) (i : StationId) (m : Nat) :
    (s.deliverToGap i m).WearLaw := by
  unfold State.deliverToGap
  extract_lets st before after s1 s2
  have worn : s1.WearLaw := h.recompute _
  have trimmed : s2.WearLaw := by
    unfold s2
    split
    · exact worn.works (Works.trimCheck s1 i)
    · exact worn
  split
  · exact trimmed.requestWrite i
  · exact trimmed

theorem State.WearLaw.deliverToLots {s : State} (h : s.WearLaw) (i : StationId) (m : Nat) :
    (s.deliverToLots i m).WearLaw := by
  unfold State.deliverToLots
  extract_lets st opened next l s1
  have taken : s1.WearLaw := h.modSt id
  split
  · exact (taken.works (Works.closeLot s1 i _)).works (Works.fullClose _ i)
  · exact taken.modSt id

theorem State.WearLaw.deliver {s : State} (h : s.WearLaw) (i : StationId) : (s.deliver i).WearLaw :=
  ((h.deliverToGap i _).deliverToLots i _).settleFeed i

theorem State.WearLaw.onset {s : State} (h : s.WearLaw) (i : StationId) : (s.onset i).WearLaw := by
  unfold State.onset
  extract_lets s1 st
  have listed : s1.WearLaw := State.WearLaw.raise (h.modSt id) i .tramp
  split
  · exact listed
  · split
    · exact listed.works (Works.enterFaulted _ i _)
    · exact listed.works (Works.onsetByState _ i)

theorem State.WearLaw.trampTransition {s : State} (h : s.WearLaw) (i : StationId) (level : Bool) :
    (s.trampTransition i level).WearLaw := by
  unfold State.trampTransition
  extract_lets s1
  have taken : s1.WearLaw := h.modSt id
  split
  · exact taken
  · split
    · exact (taken.onset i).settleFeed i
    · exact taken.works (Works.clearance _ i)

theorem State.WearLaw.setScale {s : State} (h : s.WearLaw) (i : StationId) (f : ScaleFilter) : (s.setScale i f).WearLaw :=
  h.modSt id

theorem State.WearLaw.scaleTransition {s : State} (h : s.WearLaw) (i : StationId) (level : Bool) :
    (s.scaleTransition i level).WearLaw := by
  unfold State.scaleTransition
  extract_lets s1
  have taken : s1.WearLaw := h.setScale i _
  split
  · exact taken.deliver i
  · exact taken

theorem State.WearLaw.sampleScale {s : State} (h : s.WearLaw) (i : StationId) (level : Bool) :
    (s.sampleScale i level).WearLaw := by
  unfold State.sampleScale
  split
  · split
    · exact h.setScale i _
    · split
      · exact h.setScale i _
      · exact h.setScale i _
  · split
    · exact h.scaleTransition i _
    · exact h.setScale i _

theorem State.WearLaw.sampleTramp {s : State} (h : s.WearLaw) (i : StationId) (level : Bool) :
    (s.sampleTramp i level).WearLaw := by
  unfold State.sampleTramp
  dsimp only
  split
  · exact h.trampTransition i _
  · exact h.modSt id

theorem State.WearLaw.takeSample {s : State} (h : s.WearLaw) (x : FilterSample) : (s.takeSample x).WearLaw := by
  unfold State.takeSample
  split
  · extract_lets pins s1
    have pinned : s1.WearLaw := h.of_stations rfl
    split
    · exact pinned.sampleScale _ _
    · exact pinned
  · extract_lets pins s1
    have pinned : s1.WearLaw := h.of_stations rfl
    split
    · exact pinned.sampleTramp _ _
    · exact pinned

theorem State.WearLaw.takeSamples {s : State} (h : s.WearLaw) (xs : List FilterSample) :
    (xs.foldl State.takeSample s).WearLaw := by
  induction xs generalizing s with
  | nil => exact h
  | cons x xs ih => exact ih (h.takeSample x)

/-! ## Calibration and the regulator -/

/-- At contact the record takes the new zero, rate and mass, and W follows (R108 to R110). -/
theorem State.WearLaw.contact {s : State} (h : s.WearLaw) (i : StationId) (zNew : Nat) : (s.contact i zNew).WearLaw := by
  unfold State.contact
  extract_lets st
  split
  · exact h
  · extract_lets s1 s2 s3
    have worn : s2.WearLaw := h.recompute _
    have requested : s3.WearLaw := State.WearLaw.requestWrite (worn.modGap rfl) i
    exact requested.modSt id

theorem State.WearLaw.seekDecision {s : State} (h : s.WearLaw) (i : StationId) : (s.seekDecision i).WearLaw := by
  unfold State.seekDecision
  extract_lets st
  split
  · split
    · exact (h.works (Works.endCalibration s i _)).works (Works.toRest _ i)
    · extract_lets s1
      have counted : s1.WearLaw := h.works (Works.modMove s i _)
      split
      · exact counted.contact i _
      · split
        · exact (counted.works (Works.endCalibration s1 i _)).works (Works.toRest _ i)
        · exact counted.works (Works.seekPulse s1 i _)
  · exact h

theorem State.WearLaw.applyTuned {s : State} (h : s.WearLaw) (i : StationId) : (s.applyTuned i).WearLaw := by
  unfold State.applyTuned
  split
  · extract_lets s1
    have applied : s1.WearLaw := h.modSt id
    exact (applied.chain (chainEval_step s1 i)).modSt id
  · exact h

theorem State.WearLaw.controlInterval {s : State} (h : s.WearLaw) (i : StationId) : (s.controlInterval i).WearLaw := by
  unfold State.controlInterval
  extract_lets stopped s1 s2 s3
  have reasoned : s1.WearLaw := State.WearLaw.chainSettle (h.modSt id)
  have sampled : s2.WearLaw := reasoned.modSt id
  have tuned : s3.WearLaw := sampled.applyTuned i
  split
  · exact tuned.chainSettle
  · exact State.WearLaw.chainSettle (tuned.modSt id)

theorem State.WearLaw.setFeedAt {s : State} (h : s.WearLaw) (m : FeedMode) (rate : Nat) (i : StationId) :
    (s.setFeedAt m rate i).WearLaw :=
  State.WearLaw.chainSettle (h.modSt id)

/-! ## Requests -/

theorem reqSetGap_keepsWear (st mode target tag : Nat) : KeepsWear (reqSetGap st mode target tag) := fun s h =>
  h.onNamed st fun i => by
    split
    · unfold State.setGapAppend
      extract_lets x e
      split
      · exact h
      · exact h
      · split
        · exact h
        · split
          · exact h
          · exact (h.works (Works.enqueue s i e)).settleFeed i
    · unfold State.setGapReplace
      extract_lets x e had s1
      have emptied : s1.WearLaw := h.works (Works.emptyQueue s i)
      split
      · exact h
      · exact h
      · split
        · exact h
        · extract_lets s2
          have placed : s2.WearLaw := by
            unfold s2
            split
            · exact (emptied.works (Works.leavePhase s1 i)).modSt id
            · split
              · exact emptied.modSt id
              · exact emptied.works (Works.enqueue s1 i e)
          exact (placed.works (Works.spaceIf s2 had i)).settleFeed i
    · exact h

/-- The work of a cancelled move or context is work of the gap channel (R55). -/
theorem Works.cancelWork (s : State) (i : StationId) : s.Works (s.cancelWork i) i := by
  unfold State.cancelWork
  extract_lets g
  split
  · exact (Works.endMove s i _).trans (Works.toRest _ i)
  · exact Works.dropContext s i _

theorem reqCancelGap_keepsWear (st scope : Nat) : KeepsWear (reqCancelGap st scope) := fun s h =>
  h.onNamed st fun i => by
    split
    · unfold State.cancelPending
      split
      · exact ((h.works (Works.emptyQueue s i)).works (Works.spaceEvent _ i)).settleFeed i
      · exact h
    · unfold State.cancelActive
      split
      · exact (h.works (Works.cancelWork s i)).settleFeed i
      · exact h
    · unfold State.cancelAll
      extract_lets had acts s1 s2
      have emptied : s1.WearLaw := h.works (Works.emptyQueue s i)
      have cancelled : s2.WearLaw := by
        unfold s2
        split
        · exact emptied.works (Works.cancelWork s1 i)
        · exact emptied
      split
      · exact (cancelled.works (Works.spaceIf s2 had i)).settleFeed i
      · exact h
    · exact h

theorem reqSuspendMove_keepsWear (st : Nat) : KeepsWear (reqSuspendMove st) := fun s h =>
  h.onNamed st fun i => by
    split
    · split
      · exact h
      · split
        · exact (h.works (Works.suspendNow s i)).settleFeed i
        · exact h.works (Works.modMove s i _)
    · exact h

theorem reqResumeMove_keepsWear (st : Nat) : KeepsWear (reqResumeMove st) := fun s h =>
  h.onNamed st fun i => by
    extract_lets x
    split
    · exact State.WearLaw.settleFeed (h.modSt id) i
    · split
      · exact h.works (Works.modMove s i _)
      · exact h
    · split
      · exact h.modGap rfl
      · exact h

theorem reqCalibrate_keepsWear (st : Nat) : KeepsWear (reqCalibrate st) := fun s h =>
  h.onNamed st fun i => by
    extract_lets x
    split
    · split
      · exact State.WearLaw.settleFeed (State.WearLaw.works (h.modGap rfl) (Works.drainEval _ i)) i
      · exact h
    · exact h

/-- CHANGE LINERS clears M_cal, and W follows (R27, R116). -/
theorem reqChangeLiners_keepsWear (st : Nat) : KeepsWear (reqChangeLiners st) := fun s h =>
  h.onNamed st fun i => by
    extract_lets x s1
    split
    · have worn : (s1.recomputeWear i x.capped).WearLaw := h.recompute_both _
      exact (worn.works (Works.stopSchedule _ i)).requestWrite i
    · exact h

/-- TUNE GAP changes no figure that W is computed from (R27, R58). -/
theorem reqTuneGap_keepsWear (st : Nat) (v : GapTuning) : KeepsWear (reqTuneGap st v) := fun s h =>
  h.onNamed st fun i => by
    extract_lets g
    split
    · exact h.modSt id
    · exact h

/-- SET LIMITS changes Wmax, and W follows (R29, R60). -/
theorem reqSetLimits_keepsWear (st : Nat) (v : Limits) : KeepsWear (reqSetLimits st v) := fun s h =>
  h.onNamed st fun i => by
    split
    · exact h
    · split
      · exact h
      · extract_lets l was s1
        exact h.recompute_both was

theorem reqSetFeed_keepsWear (st mode rate : Nat) : KeepsWear (reqSetFeed st mode rate) := fun s h =>
  h.onNamedOrAll st fun is => by
    split
    · exact h.eachOf is fun _ i h => h.setFeedAt _ rate i
    · exact h

theorem reqTuneFeed_keepsWear (st : Nat) (v : FeedTuning) : KeepsWear (reqTuneFeed st v) := fun s h =>
  h.onNamed st fun i => by
    split
    · exact h
    · split
      · exact h
      · exact State.WearLaw.chainSettle (h.modSt id)

theorem reqLoadSchedule_keepsWear (st : Nat) (steps : List ScheduleStep) : KeepsWear (reqLoadSchedule st steps) :=
  fun s h => h.onNamed st fun i => by
    extract_lets c taken
    split
    · exact h
    · split
      · exact h
      · exact h.modSt id

theorem State.WearLaw.scheduleStart {s : State} (h : s.WearLaw) (i : StationId) (mode : AdvanceMode) (cyclic : Bool) :
    (s.scheduleStart i mode cyclic).1.WearLaw := by
  unfold State.scheduleStart
  extract_lets st
  split
  · split
    · exact h
    · exact h
    · exact h
    · exact h
    · exact h
    · exact h
    · exact ((h.works (Works.modSched s i _)).works (Works.scheduleEnqueue _ i)).settleFeed i
  · exact h

theorem reqRunSchedule_keepsWear (st action mode cyclic : Nat) : KeepsWear (reqRunSchedule st action mode cyclic) :=
  fun s h => h.onNamed st fun i => by
    split
    · exact h.scheduleStart i _ _
    · unfold State.scheduleStop
      extract_lets c
      split
      · exact h.modSt id
      · exact h
    · unfold State.scheduleAdvanceReq
      extract_lets x
      split
      · exact (h.works (Works.scheduleAdvance s i)).settleFeed i
      · exact h
    · exact h

theorem reqReadLot_keepsWear : KeepsWear reqReadLot := fun _ h => h.of_stations rfl

theorem State.WearLaw.isolateTaken {s : State} (h : s.WearLaw) (i : StationId) : (s.isolateTaken i).WearLaw := by
  unfold State.isolateTaken
  extract_lets g s1 s2
  have emptied : s1.WearLaw := (h.works (Works.stopSchedule s i)).works (Works.emptyQueue _ i)
  have ended : s2.WearLaw := by
    unfold s2
    split
    · exact emptied.works (Works.endMove s1 i _)
    · exact emptied
  exact State.WearLaw.settleFeed (ended.modGap rfl) i

theorem reqIsolate_keepsWear (st onOff : Nat) : KeepsWear (reqIsolate st onOff) := fun s h =>
  h.onNamed st fun i => by
    split
    · unfold State.isolateOn
      split
      · exact h
      · exact h
      · exact h
      · exact h
      · exact h
      · exact h.isolateTaken i
    · unfold State.isolateOff
      extract_lets x s1
      split
      · refine State.WearLaw.settleFeed (s := s1) ?_ i
        unfold s1
        split
        · exact h.works (Works.enterFaulted s i _)
        · exact h.works (Works.toRest s i)
      · exact h
    · exact h

theorem reqDryRun_keepsWear (st onOff : Nat) : KeepsWear (reqDryRun st onOff) := fun s h =>
  h.onNamed st fun i => by
    split
    · unfold State.dryRunOn
      extract_lets x
      split
      · split
        · exact h
        · split
          · exact h
          · exact State.WearLaw.settleFeed (h.modGap rfl) i
      · exact h
    · unfold State.dryRunOff
      extract_lets x
      split
      · split
        · exact State.WearLaw.settleFeed (h.modSt id) i
        · exact h
      · exact h
    · exact h

theorem State.WearLaw.testBegun {s : State} (h : s.WearLaw) (i : StationId) (duration : Nat) :
    (s.testBegun i duration).WearLaw := by
  unfold State.testBegun
  extract_lets s1
  have listed : s1.WearLaw := by
    refine State.WearLaw.onset ?_ i
    exact h.modGap rfl
  exact State.WearLaw.settleFeed (listed.modSt id) i

theorem reqTestTramp_keepsWear (st duration : Nat) : KeepsWear (reqTestTramp st duration) := fun s h =>
  h.onNamed st fun i => by
    extract_lets g d
    split
    · exact h
    · split
      · exact h
      · exact h.testBegun i d

/-- The work of HALT is work of the gap channel (R162). -/
theorem Works.haltWork (s : State) (i : StationId) : s.Works (s.haltWork i) i := by
  unfold State.haltWork
  split
  · exact .refl s i
  · exact .refl s i
  · exact (Works.endMove s i _).trans (Works.toRest _ i)
  · exact (Works.endMove s i _).trans (Works.toRest _ i)
  · exact (Works.endCalibration s i _).trans (Works.toRest _ i)
  · exact (Works.dropContext _ i _).after (Works.modGap s i _ fun _ => ⟨rfl, rfl, rfl, rfl, rfl⟩)
  · refine (Works.leavePhase s i).trans (.trans ?_ (Works.toRest _ i))
    refine .trans ?_ (Works.discardRelief _ i)
    exact (Works.dropContext _ i _).after (Works.modGap _ i _ fun _ => ⟨rfl, rfl, rfl, rfl, rfl⟩)
  · exact .refl s i
  · exact .refl s i

theorem State.WearLaw.haltAt {s : State} (h : s.WearLaw) (i : StationId) : (s.haltAt i).WearLaw := by
  unfold State.haltAt
  extract_lets s1 s2 s3
  have emptied : s1.WearLaw :=
    ((h.works (Works.closeLot s i _)).works (Works.stopSchedule _ i)).works (Works.emptyQueue _ i)
  have stopped : s3.WearLaw := State.WearLaw.modSt (emptied.modGap rfl) id
  exact (stopped.works (Works.haltWork s3 i)).settleFeed i

/-- The choice of an order changes no station (R149). -/
theorem turns_stations (s : State) (is : List StationId) : (s.turns is).1.stations = s.stations := by
  unfold State.turns
  split
  · rfl
  · rfl

theorem reqHalt_keepsWear (st : Nat) : KeepsWear (reqHalt st) := fun s h =>
  h.onNamedOrAll st fun is =>
    State.WearLaw.eachOf (h.of_stations (turns_stations s is)) _ fun _ i h => h.haltAt i

/-- RESET STATION keeps the record and W (R163). -/
theorem stationReset_wearHolds (now : Ticks) {st : Station} (h : st.WearHolds) : (stationReset now st).WearHolds := h

theorem State.WearLaw.resetAt {s : State} (h : s.WearLaw) (i : StationId) : (s.resetAt i).WearLaw := by
  unfold State.resetAt
  extract_lets s1
  have cleared : s1.WearLaw := State.WearLaw.modSt (h.works (Works.closeLot s i _)) (stationReset_wearHolds _)
  refine State.WearLaw.settleFeed (State.WearLaw.works ?_ (Works.toRest _ i)) i
  exact cleared.of_stations rfl

theorem reqResetStation_keepsWear (st : Nat) : KeepsWear (reqResetStation st) := fun _ h =>
  h.onNamed st fun i => h.resetAt i

theorem reqClearFault_keepsWear (st : Nat) : KeepsWear (reqClearFault st) := fun s h =>
  h.onNamed st fun i => by
    extract_lets x
    split
    · split
      · exact State.WearLaw.settleFeed (State.WearLaw.works (h.modGap rfl) (Works.toRest _ i)) i
      · exact h
    · exact h

theorem reqReadStation_keepsWear (st : Nat) : KeepsWear (reqReadStation st) := fun _ h => h.onNamed st fun _ => h

theorem reqReadWear_keepsWear (st : Nat) : KeepsWear (reqReadWear st) := fun _ h => h.onNamed st fun _ => h

theorem reqReadDevice_keepsWear : KeepsWear reqReadDevice := fun _ h => h

theorem reqReadAttention_keepsWear : KeepsWear reqReadAttention := fun _ h => h

theorem State.WearLaw.onSources {s : State} (h : s.WearLaw) (xs : List Nat) {f : BitVec 36 → State × Answer}
    (k : ∀ b, (f b).1.WearLaw) : (onSources s xs f).1.WearLaw := by
  unfold Machine.onSources
  split
  · exact h
  · split
    · exact h
    · exact k _

theorem reqClearAttention_keepsWear (xs : List Nat) : KeepsWear (reqClearAttention xs) := fun _ h =>
  h.onSources xs fun _ => by
    split
    · exact h
    · exact h.of_stations rfl

theorem reqMaskAttention_keepsWear (action : Nat) (xs : List Nat) : KeepsWear (reqMaskAttention action xs) := fun _ h =>
  h.onSources xs fun _ => by
    split
    · exact h.of_stations rfl
    · exact h.of_stations rfl
    · exact h

theorem reqRaiseAttention_keepsWear (xs : List Nat) : KeepsWear (reqRaiseAttention xs) := fun _ h =>
  h.onSources xs fun _ => h.of_stations rfl

theorem reqStore_keepsWear : KeepsWear reqStore := fun s h => by
  unfold reqStore
  split
  · exact h.of_stations rfl
  · exact h

/-- A station with nothing but its record, lots and schedule holds the power-on W of its record (R190). -/
theorem stationCleared_wearHolds (st : Station) : (stationCleared st).WearHolds := stationFresh_wearHolds st.record

theorem State.WearLaw.makeAbsent {s : State} (h : s.WearLaw) (i : StationId) : (s.makeAbsent i).WearLaw :=
  State.WearLaw.modSt ((h.works (Works.closeLot s i _)).works (Works.stopSchedule _ i)) fun _ =>
    stationCleared_wearHolds _

/-- Entering service changes neither the record nor W (R190). -/
theorem stationEntered_wearHolds (now epoch : Ticks) {st : Station} (h : st.WearHolds) :
    (stationEntered now epoch st).WearHolds := by
  rw [Station.WearHolds, stationEntered]
  exact h

theorem State.WearLaw.makePresent {s : State} (h : s.WearLaw) (i : StationId) : (s.makePresent i).WearLaw :=
  h.modSt fun _ => stationEntered_wearHolds _ _ (stationCleared_wearHolds _)

theorem State.WearLaw.filterClockChanged {s : State} (h : s.WearLaw) : s.filterClockChanged.WearLaw := fun j => by
  unfold State.filterClockChanged State.st
  rw [Quad.get_map]
  exact h j

theorem State.WearLaw.configured {s : State} (h : s.WearLaw) (d : DeviceRecord) : (s.configured d).WearLaw := by
  unfold State.configured
  extract_lets leaving entering r s0 s1 s2
  have emptied : s0.WearLaw :=
    State.WearLaw.eachOf (h.of_stations (turns_stations s leaving)) r.2 fun _ i h => h.makeAbsent i
  have left : s1.WearLaw := emptied.of_stations rfl
  have clocked : s2.WearLaw := by
    unfold s2
    split
    · exact left
    · exact left.filterClockChanged
  exact (clocked.eachOf entering fun _ i h => h.makePresent i).chainSettle

theorem reqConfigureDevice_keepsWear (v : DeviceValues) : KeepsWear (reqConfigureDevice v) := fun s h => by
  unfold reqConfigureDevice
  split
  · exact h
  · split
    · exact h.configured _
    · exact h

/-! ## Supply, the writer and the link -/

/-- Every station holds its power-on values after a loss of supply, a power-on or the reset input (R19). -/
theorem restarted_wearLaw (s : State) (phase : Phase) : (s.restarted phase).WearLaw := fun i => by
  show (Quad.get (Quad.all (stationFresh stationRecordDefault)) i).WearHolds
  rw [Quad.get_all]
  exact stationFresh_wearHolds _

/-- Every station holds the power-on values over the record read (R188). -/
theorem startedUp_wearLaw (s : State) (addr : BitVec 5) (rate : Bool) : (s.startedUp addr rate).WearLaw := fun i => by
  show ((stationsLoaded s.store).get i).WearHolds
  unfold stationsLoaded
  rw [Quad.get_map]
  exact stationFresh_wearHolds _

theorem startUpEnd_wearLaw (s : State) (addr : BitVec 5) (rate : Bool) : (s.startUpEnd addr rate).WearLaw :=
  ((startedUp_wearLaw s addr rate).eachOf _ fun _ _ h => h.modSt (stationEntered_wearHolds _ _)).chainSettle

theorem servePending_stations (s : State) : s.servePending.stations = s.stations := by
  unfold State.servePending
  split
  · rfl
  · rfl

theorem nextWrite_stations (s : State) : s.nextWrite.stations = s.stations := by
  unfold State.nextWrite
  split
  · rfl
  · exact servePending_stations _
  · exact servePending_stations _

theorem onLength_keepsWear (n : Nat) (p : List Byte) {f : State → State × Answer} (k : KeepsWear f) :
    KeepsWear (onLength n p f) := fun s h => by
  unfold onLength
  split
  · exact k s h
  · exact h

/-- Every request that a sound frame can carry keeps the wear law (R172). -/
theorem request_keepsWear (kind : Byte) (p : List Byte) : KeepsWear (request kind p) := by
  unfold request
  extract_lets b
  split
  · exact onLength_keepsWear _ p (reqSetGap_keepsWear _ _ _ _)
  · exact onLength_keepsWear _ p (reqCancelGap_keepsWear _ _)
  · exact onLength_keepsWear _ p (reqSuspendMove_keepsWear _)
  · exact onLength_keepsWear _ p (reqResumeMove_keepsWear _)
  · exact onLength_keepsWear _ p (reqCalibrate_keepsWear _)
  · exact onLength_keepsWear _ p (reqChangeLiners_keepsWear _)
  · exact onLength_keepsWear _ p (reqTuneGap_keepsWear _ _)
  · exact onLength_keepsWear _ p (reqSetLimits_keepsWear _ _)
  · exact onLength_keepsWear _ p (reqSetFeed_keepsWear _ _ _)
  · exact onLength_keepsWear _ p (reqTuneFeed_keepsWear _ _)
  · exact onLength_keepsWear _ p (reqLoadSchedule_keepsWear _ _)
  · exact onLength_keepsWear _ p (reqRunSchedule_keepsWear _ _ _ _)
  · exact onLength_keepsWear _ p reqReadLot_keepsWear
  · exact onLength_keepsWear _ p (reqIsolate_keepsWear _ _)
  · exact onLength_keepsWear _ p (reqDryRun_keepsWear _ _)
  · exact onLength_keepsWear _ p (reqTestTramp_keepsWear _ _)
  · exact onLength_keepsWear _ p (reqHalt_keepsWear _)
  · exact onLength_keepsWear _ p (reqResetStation_keepsWear _)
  · exact onLength_keepsWear _ p (reqClearFault_keepsWear _)
  · exact onLength_keepsWear _ p (reqReadStation_keepsWear _)
  · exact onLength_keepsWear _ p (reqReadWear_keepsWear _)
  · exact onLength_keepsWear _ p reqReadDevice_keepsWear
  · exact onLength_keepsWear _ p reqReadAttention_keepsWear
  · exact onLength_keepsWear _ p (reqClearAttention_keepsWear _)
  · exact onLength_keepsWear _ p (reqMaskAttention_keepsWear _ _)
  · exact onLength_keepsWear _ p (reqRaiseAttention_keepsWear _)
  · exact onLength_keepsWear _ p reqStore_keepsWear
  · exact onLength_keepsWear _ p (reqConfigureDevice_keepsWear _)
  · exact fun _ h => h

theorem State.WearLaw.takeFrame {s : State} (h : s.WearLaw) (addr kind : Byte) (payload : List Byte) :
    (s.takeFrame addr kind payload).WearLaw := by
  unfold State.takeFrame
  extract_lets s1 r
  have listening : s1.WearLaw := h.of_stations rfl
  have taken : r.1.WearLaw := request_keepsWear kind payload s1 listening
  split
  · exact taken.of_stations rfl
  · split
    · exact taken
    · exact listening

theorem State.WearLaw.addCharacter {s : State} (h : s.WearLaw) (c : Byte) : (s.addCharacter c).WearLaw := by
  unfold State.addCharacter
  extract_lets f link more crc
  have joined : more.WearLaw := h.of_stations rfl
  split
  · exact joined.of_stations rfl
  · split
    · exact h.of_stations rfl
    · split
      · exact joined.of_stations rfl
      · split
        · exact joined
        · split
          · exact joined.takeFrame _ _ _
          · exact h.of_stations rfl

theorem listenCharacter_stations (s : State) (c : Byte) (stopBit : Bool) :
    (s.listenCharacter c stopBit).stations = s.stations := by
  unfold State.listenCharacter
  split
  · rfl
  · rfl

theorem resyncCharacter_stations (s : State) (c : Byte) (stopBit : Bool) :
    (s.resyncCharacter c stopBit).stations = s.stations := by
  unfold State.resyncCharacter
  split
  · exact listenCharacter_stations s c stopBit
  · rfl

theorem replyCharacter_stations (s : State) : s.replyCharacter.stations = s.stations := by
  unfold State.replyCharacter
  extract_lets seen
  split
  · rfl
  · split
    · rfl
    · rfl

theorem State.WearLaw.receiveCharacter {s : State} (h : s.WearLaw) (c : Byte) (stopBit : Bool) :
    (s.receiveCharacter c stopBit).WearLaw := by
  unfold State.receiveCharacter
  split
  · exact h.of_stations (resyncCharacter_stations _ c stopBit)
  · split
    · exact h.addCharacter c
    · exact h.of_stations rfl

/-! ## Every command -/

/-- Every command keeps the wear law (R27). -/
theorem exec_keepsWear (c : Instr) {s : State} (h : s.WearLaw) : Takes c s State.WearLaw := by
  cases c with
  | powerOn dt => exact ⟨_, rfl, restarted_wearLaw _ _⟩
  | supplyLoss dt => exact ⟨_, rfl, restarted_wearLaw _ _⟩
  | resetInput dt => exact ⟨_, rfl, restarted_wearLaw _ _⟩
  | resetRelease dt => exact ⟨_, rfl, .ite (h.of_stations rfl) (h.of_stations rfl)⟩
  | startUpEnd dt addr rate => exact ⟨_, rfl, .ite (startUpEnd_wearLaw _ addr rate) (h.elapse dt)⟩
  | positionInterrogation i => exact ⟨_, rfl, h.onStation fun _ h => State.WearLaw.modSt (h.reach _) id⟩
  | posReturnLeadingEdge dt i => exact ⟨_, rfl, (h.elapse dt).onStation fun _ h => h.modSt id⟩
  | posReturnTrailingEdge dt i =>
    refine ⟨_, rfl, (h.elapse dt).onStation fun _ h => ?_⟩
    split
    · exact h.sampleDone i _
    · exact h
  | noReturnTimeout i =>
    refine ⟨_, rfl, h.onStation fun _ h => ?_⟩
    split
    · exact (h.reach _).sampleDone i _
    · exact h
  | widthTooLong i =>
    refine ⟨_, rfl, h.onStation fun _ h => ?_⟩
    split
    · exact (h.reach _).sampleDone i _
    · exact h
  | echoTrigger i => exact ⟨_, rfl, h.onStation fun _ h => State.WearLaw.modSt (h.reach _) id⟩
  | echoRisingEdge dt i =>
    refine ⟨_, rfl, (h.elapse dt).onStation fun _ h => ?_⟩
    split
    · split
      · extract_lets us
        split
        · exact h.echoValidDone i _
        · exact h.echoInvalidDone i
      · exact h
    · exact h
  | echoWindowExpiry i =>
    refine ⟨_, rfl, h.onStation fun _ h => ?_⟩
    split
    · exact (h.reach _).echoInvalidDone i
    · exact h
  | levelLostTimeout i =>
    refine ⟨_, rfl, h.atTimer fun s h => ?_⟩
    extract_lets s1
    have stopped : s1.WearLaw := h.modSt id
    split
    · exact (stopped.modStops i _).settleFeed i
    · exact stopped
  | powerPulse dt i =>
    refine ⟨_, rfl, (h.elapse dt).onStation fun s h => ?_⟩
    extract_lets st s1 reading
    have opened : s1.WearLaw := h.modSt id
    split
    · exact State.WearLaw.powerEvent (opened.modSt id) i reading
    · exact opened
  | staleExpiry i => exact ⟨_, rfl, h.atTimer fun _ h => State.WearLaw.powerEvent (h.modSt id) i 0⟩
  | scaleFilterDefined dt i level =>
    refine ⟨_, rfl, (h.elapse dt).atFilterTick fun _ h => ?_⟩
    split
    · exact h.setScale i _
    · exact h
  | scalePulse dt i =>
    refine ⟨_, rfl, (h.elapse dt).atFilterTick fun _ h => ?_⟩
    split
    · exact h.scaleTransition i true
    · exact h
  | scaleInactiveTransition dt i =>
    refine ⟨_, rfl, (h.elapse dt).atFilterTick fun _ h => ?_⟩
    split
    · exact h.scaleTransition i false
    · exact h
  | trampOnset dt i =>
    refine ⟨_, rfl, (h.elapse dt).atFilterTick fun _ h => ?_⟩
    split
    · exact h
    · exact h.trampTransition i true
  | trampClearance dt i =>
    refine ⟨_, rfl, (h.elapse dt).atFilterTick fun _ h => ?_⟩
    split
    · exact h.trampTransition i false
    · exact h
  | trampListAgeing i => exact ⟨_, rfl, h.onStation fun _ h => State.WearLaw.modSt (h.reach _) id⟩
  | reliefHoldExpiry i => exact ⟨_, rfl, h.atTimer fun _ h => (h.works (Works.holdExpired _ i)).settleFeed i⟩
  | settleExpiry i => exact ⟨_, rfl, h.atTimer fun _ h => (h.works (Works.settleDecision _ i)).settleFeed i⟩
  | pulseTimerExpiry i => exact ⟨_, rfl, h.atTimer fun _ h => h.modSt (Works.pulseEnd _ _).wearHolds⟩
  | loadWaitExpiry i => exact ⟨_, rfl, h.atTimer fun _ h => (h.works (Works.finishLoop _ i _)).settleFeed i⟩
  | resumeDwellExpiry i =>
    refine ⟨_, rfl, h.atTimer fun s h => ?_⟩
    split
    · exact (h.works (Works.suspendNow s i)).settleFeed i
    · exact h.works (Works.modMove s i _)
  | quietTimerExpiry i => exact ⟨_, rfl, h.atTimer fun _ h => (h.works (Works.beginSeek _ i)).settleFeed i⟩
  | drainTimeoutExpiry i =>
    exact ⟨_, rfl, h.atTimer fun _ h =>
      ((h.works (Works.endCalibration _ i _)).works (Works.toRest _ i)).settleFeed i⟩
  | seekSettleExpiry i => exact ⟨_, rfl, h.atTimer fun _ h => (h.seekDecision i).settleFeed i⟩
  | testTrampExpiry i => exact ⟨_, rfl, h.atTimer fun _ h => State.WearLaw.works (h.modSt id) (Works.clearance _ i)⟩
  | controlInterval i => exact ⟨_, rfl, h.atTimer fun _ h => h.controlInterval i⟩
  | chainTimerExpiry i =>
    exact ⟨_, rfl, h.atTimer fun _ h =>
      State.WearLaw.chainSettle (State.WearLaw.modStops (h.modSt id) i _)⟩
  | feedHalfEnd i => exact ⟨_, rfl, h.atTimer fun _ h => h.modSt id⟩
  | feedPeriodEnd i => exact ⟨_, rfl, h.atTimer fun _ h => h.modSt id⟩
  | leanTimerExpiry i => exact ⟨_, rfl, h.atTimer fun _ h => h.works (Works.closeLot _ i _)⟩
  | storeWriteComplete wait =>
    exact ⟨_, rfl, h.whenRunning fun _ h => h.atExpiry fun _ h => h.of_stations (nextWrite_stations _)⟩
  | panelFrame => exact ⟨_, rfl, h.whenRunning fun _ h => h.of_stations rfl⟩
  | frameDiscard dt why => exact ⟨_, rfl, (h.elapse dt).whenRunning fun _ h => .ite (h.of_stations rfl) h⟩
  | interCharacterTimeout => exact ⟨_, rfl, h.whenRunning fun _ h => .ite (h.of_stations rfl) h⟩
  | resyncSilence => exact ⟨_, rfl, h.whenRunning fun _ h => .ite (h.of_stations rfl) h⟩
  | frameForOtherDevice dt => exact ⟨_, rfl, (h.elapse dt).whenRunning fun _ h => .ite (h.of_stations rfl) h⟩
  | frameBegunDuringReply dt => exact ⟨_, rfl, (h.elapse dt).whenRunning fun _ h => .ite (h.of_stations rfl) h⟩
  | unknownKind dt kind => exact ⟨_, rfl, .ite (h.answered dt kind fun _ h => h) (h.elapse dt)⟩
  | replyStart wait => exact ⟨_, rfl, h.whenRunning fun _ h => .ite (h.of_stations rfl) h⟩
  | replyComplete =>
    refine ⟨_, rfl, h.whenRunning fun _ h => ?_⟩
    split
    · exact h.of_stations rfl
    · exact h
  | setGapAppend dt st target tag => exact ⟨_, rfl, h.answered dt _ (reqSetGap_keepsWear st 1 target tag)⟩
  | setGapReplace dt st target tag => exact ⟨_, rfl, h.answered dt _ (reqSetGap_keepsWear st 2 target tag)⟩
  | cancelGapPending dt st => exact ⟨_, rfl, h.answered dt _ (reqCancelGap_keepsWear st 1)⟩
  | cancelGapActive dt st => exact ⟨_, rfl, h.answered dt _ (reqCancelGap_keepsWear st 2)⟩
  | cancelGapAll dt st => exact ⟨_, rfl, h.answered dt _ (reqCancelGap_keepsWear st 3)⟩
  | suspendMove dt st => exact ⟨_, rfl, h.answered dt _ (reqSuspendMove_keepsWear st)⟩
  | resumeMove dt st => exact ⟨_, rfl, h.answered dt _ (reqResumeMove_keepsWear st)⟩
  | calibrate dt st => exact ⟨_, rfl, h.answered dt _ (reqCalibrate_keepsWear st)⟩
  | changeLiners dt st => exact ⟨_, rfl, h.answered dt _ (reqChangeLiners_keepsWear st)⟩
  | tuneGap dt st v => exact ⟨_, rfl, h.answered dt _ (reqTuneGap_keepsWear st v)⟩
  | setLimits dt st v key =>
    have keyed : (s.setKey key).WearLaw := h.of_stations rfl
    exact ⟨_, rfl, keyed.answered dt _ (reqSetLimits_keepsWear st v)⟩
  | setFeed dt bcast st mode rate =>
    have k := reqSetFeed_keepsWear st mode rate
    exact ⟨_, rfl, .ite (h.broadcast dt k) (h.answered dt _ k)⟩
  | tuneFeed dt st v => exact ⟨_, rfl, h.answered dt _ (reqTuneFeed_keepsWear st v)⟩
  | loadSchedule dt st steps => exact ⟨_, rfl, h.answered dt _ (reqLoadSchedule_keepsWear st steps)⟩
  | runScheduleStart dt st mode cyclic => exact ⟨_, rfl, h.answered dt _ (reqRunSchedule_keepsWear st 1 mode cyclic)⟩
  | runScheduleStop dt st mode cyclic => exact ⟨_, rfl, h.answered dt _ (reqRunSchedule_keepsWear st 2 mode cyclic)⟩
  | runScheduleAdvance dt st mode cyclic => exact ⟨_, rfl, h.answered dt _ (reqRunSchedule_keepsWear st 3 mode cyclic)⟩
  | readLot dt => exact ⟨_, rfl, h.answered dt _ reqReadLot_keepsWear⟩
  | isolate dt st => exact ⟨_, rfl, h.answered dt _ (reqIsolate_keepsWear st 1)⟩
  | releaseIsolate dt st => exact ⟨_, rfl, h.answered dt _ (reqIsolate_keepsWear st 0)⟩
  | dryRunOn dt st => exact ⟨_, rfl, h.answered dt _ (reqDryRun_keepsWear st 1)⟩
  | dryRunOff dt st => exact ⟨_, rfl, h.answered dt _ (reqDryRun_keepsWear st 0)⟩
  | testTramp dt st duration => exact ⟨_, rfl, h.answered dt _ (reqTestTramp_keepsWear st duration)⟩
  | halt dt bcast st =>
    exact ⟨_, rfl, .ite (h.broadcast dt (reqHalt_keepsWear st)) (h.answered dt _ (reqHalt_keepsWear st))⟩
  | resetStation dt st => exact ⟨_, rfl, h.answered dt _ (reqResetStation_keepsWear st)⟩
  | clearFault dt st => exact ⟨_, rfl, h.answered dt _ (reqClearFault_keepsWear st)⟩
  | readStation dt st => exact ⟨_, rfl, h.answered dt _ (reqReadStation_keepsWear st)⟩
  | readWear dt st => exact ⟨_, rfl, h.answered dt _ (reqReadWear_keepsWear st)⟩
  | readDevice dt key =>
    have keyed : (s.setKey key).WearLaw := h.of_stations rfl
    exact ⟨_, rfl, keyed.answered dt _ reqReadDevice_keepsWear⟩
  | readAttention dt => exact ⟨_, rfl, h.answered dt _ reqReadAttention_keepsWear⟩
  | clearAttention dt sources => exact ⟨_, rfl, h.answered dt _ (reqClearAttention_keepsWear sources)⟩
  | maskAttentionSet dt sources => exact ⟨_, rfl, h.answered dt _ (reqMaskAttention_keepsWear 1 sources)⟩
  | maskAttentionClear dt sources => exact ⟨_, rfl, h.answered dt _ (reqMaskAttention_keepsWear 2 sources)⟩
  | raiseAttention dt sources => exact ⟨_, rfl, h.answered dt _ (reqRaiseAttention_keepsWear sources)⟩
  | store dt => exact ⟨_, rfl, h.answered dt _ reqStore_keepsWear⟩
  | configureDevice dt v => exact ⟨_, rfl, h.answered dt _ (reqConfigureDevice_keepsWear v)⟩
  | filterClockTick samples =>
    refine ⟨_, rfl, h.whenRunning fun _ h => State.WearLaw.takeSamples ?_ samples⟩
    exact h.of_stations rfl
  | characterReceived dt byte stopBit key =>
    have keyed : ((s.elapse dt).setKey key).WearLaw := h.of_stations rfl
    refine ⟨_, rfl, keyed.whenRunning fun s h => ?_⟩
    split
    · exact h.of_stations (resyncCharacter_stations s byte stopBit)
    · exact h.of_stations (listenCharacter_stations s byte stopBit)
    · exact h.receiveCharacter byte stopBit
    · exact h.of_stations (replyCharacter_stations s)
  | panelBit =>
    refine ⟨_, rfl, h.whenRunning fun _ h => ?_⟩
    split
    · exact h
    · split
      · exact h.of_stations rfl
      · exact h

/-- Settles O55: every command keeps the law, and its formula is at most Wmax. -/
theorem stepKeepsWearLaw : Obligations.StepKeepsWearLaw := by
  intro s t h e
  have kept : t.WearLaw := step_induct (P := State.WearLaw) (fun _ _ h => h.of_stations rfl)
    (fun c _ _ h e => of_takes (exec_keepsWear c h) e) h e
  exact ⟨kept, fun i => (kept i).le_wMax⟩

end Sys2Proof.Machine
end

section
/-!
PROOFS. The laws of the device at reset: each holds at a station with its power-on values, and the blank store holds no valid record.
-/

namespace Sys2Proof.Machine

/-! ## A station at power-on -/

/-- At power-on the feed mode is STOP, the demand rate_min and the output rate 0 (R119, R140). -/
theorem stationFresh_feedHolds {rec : StationRecord} (h : RateRange rec.feedTuning) : (stationFresh rec).FeedHolds :=
  ⟨Nat.le_refl _, h, rfl, rfl⟩

/-- At power-on no reason stands, and the gap channel asks for none (R120, R140). -/
theorem stationFresh_reasonsAgree (rec : StationRecord) : (stationFresh rec).ReasonsAgree := ⟨rfl, rfl, rfl⟩

/-- At power-on the gap channel holds no move, context or calibration, and its valves are inactive (R38). -/
theorem gapChannelFresh_whole (rec : StationRecord) : (gapChannelFresh rec).Whole := by
  refine ⟨rfl, rfl, fun c h => ?_, fun h => ?_, rfl, rfl⟩
  · simp [gapChannelFresh] at h
  · simp [gapChannelFresh] at h

/-- An empty wear history is in order. -/
theorem historyHolds_of_nil {r : StationRecord} (h : r.history = []) : r.HistoryHolds := by
  refine ⟨?_, fun k a b ha => ?_, fun e he => ?_⟩
  · rw [h]
    exact Nat.zero_le 8
  · simp [h] at ha
  · simp [h] at he

/-! ## The state at reset -/

/-- At reset every station holds the power-on values over the default record. -/
@[simp] theorem reset_st (i : StationId) : State.reset.st i = stationFresh stationRecordDefault := Quad.get_all _ i

/-- The store at reset holds no valid station record (assumption log 4). -/
theorem reset_store_station (i : StationId) : State.reset.store.station i = none := storeBlank_station i

theorem reset_wearLaw : State.reset.WearLaw := fun i => by
  rw [reset_st]
  exact stationFresh_wearHolds _

theorem reset_feedLaw : State.reset.FeedLaw := by
  have range : RateRange stationRecordDefault.feedTuning := by
    unfold RateRange
    decide
  refine ⟨fun i => ?_, fun i r hr => ?_, nofun⟩
  · rw [reset_st]
    exact ⟨range, stationFresh_feedHolds range⟩
  · rw [reset_store_station] at hr
    cases hr

theorem reset_reasonLaw : State.reset.ReasonLaw := fun i => by
  rw [reset_st]
  exact stationFresh_reasonsAgree _

theorem reset_boundLaw : State.reset.BoundLaw := by
  refine ⟨Nat.zero_le 16, fun i => ?_, fun i r hr => ?_, nofun⟩
  · rw [reset_st]
    exact ⟨Nat.zero_le 4, Nat.zero_le 8, historyHolds_of_nil rfl⟩
  · rw [reset_store_station] at hr
    cases hr

/-- Start-up runs at reset, and the queue law is about a running device. -/
theorem reset_queueLaw : State.reset.QueueLaw := nofun

theorem reset_valveLaw : State.reset.ValveLaw := fun i => by
  rw [reset_st]
  exact gapChannelFresh_whole _

/-- Settles O54, one law after another. -/
theorem resetHoldsLaws : Obligations.ResetHoldsLaws :=
  ⟨reset_wearLaw, reset_feedLaw, reset_reasonLaw, reset_boundLaw, reset_queueLaw, reset_valveLaw⟩

end Sys2Proof.Machine
end

section
/-!
PROOFS. TUNE GAP and SET LIMITS (R58, R60): each request at the station it names, as an equation, and the statement about both.
-/

namespace Sys2Proof.Machine

/-! ## The values taken (R58, R60) -/

theorem le_clampTo {lo hi : Nat} (h : lo ≤ hi) (v : Nat) : lo ≤ clampTo lo hi v := by
  unfold clampTo
  split
  · exact Nat.le_refl lo
  · split
    · exact h
    · omega

theorem clampTo_le {lo hi : Nat} (h : lo ≤ hi) (v : Nat) : clampTo lo hi v ≤ hi := by
  unfold clampTo
  split
  · exact h
  · split
    · exact Nat.le_refl hi
    · omega

/-- TUNE GAP raises Tmax to Tmin where it is below it (R58). -/
theorem gapTuningTaken_tMin_le (v : GapTuning) : (gapTuningTaken v).tMin ≤ (gapTuningTaken v).tMax := by
  unfold gapTuningTaken
  dsimp only
  split
  · exact Nat.le_refl _
  · omega

/-- CSSmax is clamped against the CSSmin taken (R60). -/
theorem limitsTaken_css_le (v : Limits) : (limitsTaken v).cssMin ≤ (limitsTaken v).cssMax :=
  le_clampTo (clampTo_le (by decide) v.cssMin) v.cssMax

/-- Pmax is clamped against the Pmin taken (R60). -/
theorem limitsTaken_p_le (v : Limits) : (limitsTaken v).pMin ≤ (limitsTaken v).pMax :=
  le_clampTo (clampTo_le (Nat.zero_le 65535) v.pMin) v.pMax

/-! ## TUNE GAP and SET LIMITS -/

/-- TUNE GAP as a full-state equation (R58). -/
theorem tuneGap_takes {s : State} {i : StationId} (h : s.HearsFor i) (dt : Ticks) (v : GapTuning) :
    Takes (.tuneGap dt i.val v) s fun t =>
      if (s.st i).gap.state = .idle ∨ (s.st i).gap.state = .unreferenced ∨ (s.st i).gap.state = .isolated ∨
          (s.st i).gap.state = .faulted then
        t = { s.stationAt (s.clock + dt) i
            { s.st i with record := { (s.st i).record with gapTuning := gapTuningTaken v } } with
          link := s.replied dt 0x07#8 (answer (if gapTuningTaken v = v then .done else .clamped)) }
      else t = { s with clock := s.clock + dt, link := s.replied dt 0x07#8 (answer .wrongState) } := by
  refine takes_of (congrArg Host.Outcome.next (answered_onNamed h dt 0x07#8 _)) ?_
  dsimp only
  split
  · rename_i taken
    rw [State.st_elapse, if_pos taken, clampedOr_bne]
    rfl
  · rename_i refused
    rw [State.st_elapse, if_neg refused]
    rfl

/-- The station with W by its formula (R27). -/
def Station.worn (st : Station) : Station :=
  { st with gap := { st.gap with w := wearEstimate st.record.limits.wMax st.record.mCal st.record.r } }

/-- `recomputeWear` sets W at its station by the formula, and besides may raise a source (R27, R28). -/
theorem recomputeWear_eq (s : State) (i : StationId) (wasCapped : Bool) :
    ∃ x, s.recomputeWear i wasCapped = { s.modSt i Station.worn with raised := x } := by
  unfold State.recomputeWear
  extract_lets s1
  split
  · exact ⟨_, rfl⟩
  · exact ⟨_, rfl⟩

/-- Limits taken at a station: they are held, the trim-inhibit flag clears and W follows the new Wmax (R29, R60). -/
theorem limitsTaken_acts (s : State) (i : StationId) (l : Limits) (wasCapped : Bool) :
    ∃ x, ((s.modRecord i fun rec => { rec with limits := l }).modGap i fun g =>
        { g with trimInhibit := false }).recomputeWear i wasCapped =
      { s.modSt i fun st => { st with
          record := { st.record with limits := l }
          gap := { st.gap with trimInhibit := false, w := wearEstimate l.wMax st.record.mCal st.record.r } } with
        raised := x } := by
  obtain ⟨x, e⟩ := recomputeWear_eq ((s.modRecord i fun rec => { rec with limits := l }).modGap i fun g =>
    { g with trimInhibit := false }) i wasCapped
  refine ⟨x, e.trans ?_⟩
  rw [State.modGap, State.modRecord, State.modSt_modSt, State.modSt_modSt]
  rfl

/-- SET LIMITS with KEY active and no reversed pair, as a full-state equation but for the raised set (R29, R60). -/
theorem setLimits_takes {s : State} {i : StationId} (h : s.HearsFor i) (dt : Ticks) {v : Limits}
    (css : v.cssMin ≤ v.cssMax) (pos : v.pMin ≤ v.pMax) :
    Takes (.setLimits dt i.val v true) s fun t =>
      ∃ x, t = { s.stationAt (s.clock + dt) i { s.st i with
            record := { (s.st i).record with limits := limitsTaken v }
            gap := { (s.st i).gap with
              trimInhibit := false
              w := wearEstimate (limitsTaken v).wMax (s.st i).record.mCal (s.st i).record.r } } with
          raised := x, pins := { s.pins with key := true }
          link := s.replied dt 0x08#8 (answer (if limitsTaken v = v then .done else .clamped)) } := by
  have keyed : (s.setKey true).HearsFor i := h
  refine takes_of (congrArg Host.Outcome.next (answered_onNamed keyed dt 0x08#8 _)) ?_
  have ordered : ¬(v.cssMax < v.cssMin ∨ v.pMax < v.pMin) := by omega
  have key : (!((s.setKey true).elapse dt).pins.key) = false := rfl
  dsimp only
  rw [key, if_neg Bool.false_ne_true, if_neg ordered, clampedOr_bne]
  obtain ⟨x, e⟩ := limitsTaken_acts ((s.setKey true).elapse dt) i (limitsTaken v)
    (((s.setKey true).elapse dt).st i).capped
  refine ⟨x, ?_⟩
  dsimp only
  rw [e]
  rfl

/-- SET LIMITS with KEY inactive is refused (R60). -/
theorem setLimits_locked {s : State} {i : StationId} (h : s.HearsFor i) (dt : Ticks) (v : Limits) :
    Takes (.setLimits dt i.val v false) s fun t =>
      t = { s with
        clock := s.clock + dt, pins := { s.pins with key := false }
        link := s.replied dt 0x08#8 (answer .locked) } := by
  have keyed : (s.setKey false).HearsFor i := h
  refine takes_of (congrArg Host.Outcome.next (answered_onNamed keyed dt 0x08#8 _)) ?_
  have key : (!((s.setKey false).elapse dt).pins.key) = true := rfl
  dsimp only
  rw [key, if_pos rfl]
  rfl

/-- Settles O38, from the equations of TUNE GAP and SET LIMITS. -/
theorem tuneGapAndSetLimits : Obligations.TuneGapAndSetLimits := by
  refine ⟨fun s i dt v h => ?_, fun s i dt v h css pos => ?_, fun s i dt v h => setLimits_locked h dt v⟩
  · exact (tuneGap_takes h dt v).imp fun t e => ⟨gapTuningTaken_tMin_le v, e⟩
  · refine (setLimits_takes h dt css pos).imp fun t e => ?_
    obtain ⟨x, rfl⟩ := e
    exact ⟨rfl, limitsTaken_css_le v, limitsTaken_p_le v, State.st_stationAt_self s (s.clock + dt) i _,
      fun j hj => State.st_stationAt_ne s (s.clock + dt) _ hj, rfl, rfl⟩

end Sys2Proof.Machine
end

section
/-!
PROOFS. SET GAP APPEND (R50, R51): what closing a lot, a space event and the joining of an entry do to the state, as equations; what a
request leaves after the end of its event and its reply; and the three outcomes of the request.
-/

namespace Sys2Proof.Machine

/-! ## Closing a lot (R145, R146, R149) -/

/-- The source that a lot record raises as it is handed to the lot queue (R149). -/
def State.lotSource (s : State) : BitVec 36 :=
  if 16 ≤ s.lotQueue.length then sourceBit 34 else if s.lotQueue = [] then sourceBit 33 else 0#36

/-- The lot queue after a record is handed to it (R149). -/
def State.lotQueueWith (s : State) (r : LotRecord) : List LotRecord :=
  if s.lotQueue.length < 16 then s.lotQueue ++ [r] else s.lotQueue

/-- A closing lot changes the lots of its station, the lot queue and the raised set (R146, R149). -/
theorem closeLot_eq {s : State} {i : StationId} {l : OpenLot} (h : (s.st i).lots.lot = some l) (reason : CloseReason) :
    s.closeLot i reason =
      { s.modLots i fun _ => s.lotsClosed i with
        lotQueue := s.lotQueueWith (l.closed i reason (s.st i).gap.w), raised := s.raised ||| s.lotSource } := by
  unfold State.closeLot State.lotQueueWith State.lotSource State.lotsClosed
  rw [h]
  unfold State.queueLot
  by_cases room : s.lotQueue.length < 16
  · have few : ¬16 ≤ s.lotQueue.length := by omega
    by_cases empty : s.lotQueue = []
    · have nothing : s.lotQueue.isEmpty = true := List.isEmpty_iff.mpr empty
      rw [if_neg few, if_pos room, if_pos empty]
      simp only [State.modLots, State.lotQueue_modSt, room, if_true, nothing]
      rfl
    · have something : s.lotQueue.isEmpty = false := List.isEmpty_eq_false_iff.mpr empty
      rw [if_neg few, if_pos room, if_neg empty, BitVec.or_zero]
      simp only [State.modLots, State.lotQueue_modSt, room, if_true, something]
      rfl
  · have full : 16 ≤ s.lotQueue.length := by omega
    have station : (lotRecordOf i l reason (s.st i).gap.w).station = i := rfl
    simp only [State.modLots, State.lotQueue_modSt, room, if_false, full, if_true, station, State.modSt_modSt]
    rfl

/-- A target handed to the lots leaves the state, or closes an open lot of another target CUT (R145). -/
theorem handTarget_cases (s : State) (i : StationId) (eff : Nat) :
    (((s.st i).lots.lot = none ∨ ∃ l, (s.st i).lots.lot = some l ∧ l.target = some eff) ∧ s.handTarget i eff = s) ∨
      ∃ l, (s.st i).lots.lot = some l ∧ l.target ≠ some eff ∧ s.handTarget i eff = s.closeLot i .cut := by
  unfold State.handTarget
  cases h : (s.st i).lots.lot with
  | none => exact .inl ⟨.inl rfl, rfl⟩
  | some l =>
    by_cases same : l.target = some eff
    · exact .inl ⟨.inr ⟨l, rfl, same⟩, if_pos same⟩
    · exact .inr ⟨l, rfl, same, if_neg same⟩

/-- A closing lot's station, but for its lots, stands. -/
theorem closeLot_st {s : State} {i : StationId} {l : OpenLot} (h : (s.st i).lots.lot = some l) (reason : CloseReason) :
    (s.closeLot i reason).st i = { s.st i with lots := s.lotsClosed i } := by
  rw [closeLot_eq h]
  exact State.st_modSt_self s i fun st => { st with lots := s.lotsClosed i }

/-- A target handed to the lots changes nothing of its station but the lots (R145). -/
theorem handTarget_st (s : State) (i : StationId) (eff : Nat) :
    (s.handTarget i eff).st i = { s.st i with lots := ((s.handTarget i eff).st i).lots } := by
  obtain ⟨-, e⟩ | ⟨l, held, -, e⟩ := handTarget_cases s i eff
  · rw [e]
  · rw [e, closeLot_st held]

/-- The record of a closing lot joins the lot queue, or is dropped with LOT LOSS (R149). -/
theorem closeLot_joins {s : State} {i : StationId} {l : OpenLot} (h : (s.st i).lots.lot = some l) (reason : CloseReason) :
    s.LotJoins (s.closeLot i reason) (l.closed i reason (s.st i).gap.w) := by
  have raised (n : Nat) (hn : (sourceBit n).getLsbD n = true) (e : s.lotSource = sourceBit n) :
      (s.closeLot i reason).Raised n := by
    rw [closeLot_eq h]
    simp [State.Raised, e, hn]
  unfold State.LotJoins
  split
  · rename_i room
    have few : ¬16 ≤ s.lotQueue.length := by omega
    refine ⟨?_, fun empty => raised 33 (by decide) ?_⟩
    · rw [closeLot_eq h]
      exact if_pos room
    · rw [State.lotSource, if_neg few, if_pos empty]
  · rename_i full
    refine ⟨?_, raised 34 (by decide) ?_⟩
    · rw [closeLot_eq h]
      exact if_neg full
    · rw [State.lotSource, if_pos (by omega)]

/-- An activation's target closes an open lot of another target CUT (R145, R146, R149). -/
theorem handTarget_hands (s : State) (i : StationId) (eff : Nat) :
    s.HandsTarget (s.handTarget i eff) i eff s.raised := by
  unfold State.HandsTarget
  obtain ⟨held, e⟩ | ⟨l, held, other, e⟩ := handTarget_cases s i eff
  · have stand : s.LotsStand s i s.raised := ⟨rfl, rfl, rfl⟩
    obtain none_ | ⟨l, some_, same⟩ := held
    · simpa only [e, none_] using stand
    · simpa only [e, some_, if_pos same] using stand
  · simp only [e, held, if_neg other]
    refine ⟨?_, closeLot_joins held .cut, ?_⟩
    · rw [closeLot_st held]
    · rw [closeLot_eq held]
      rfl

/-- What an activation hands to the lots is read from the lots, the lot queue, W and the raised set alone. -/
theorem State.HandsTarget.congr {s s' t t' : State} {i : StationId} {eff : Nat} {x : BitVec 36}
    (h : s.HandsTarget t i eff x) (lots : (s'.st i).lots = (s.st i).lots) (queue : s'.lotQueue = s.lotQueue)
    (w : (s'.st i).gap.w = (s.st i).gap.w) (lots' : (t'.st i).lots = (t.st i).lots) (queue' : t'.lotQueue = t.lotQueue)
    (raised' : t'.raised = t.raised) : s'.HandsTarget t' i eff x := by
  unfold State.HandsTarget State.LotsStand State.LotJoins State.lotsClosed State.Raised at *
  rw [lots, queue, w, lots', queue', raised']
  exact h

/-! ## Entries and space events (R43, R154) -/

/-- The schedule's entry is that of R42 for the step at its index. -/
theorem scheduleEntry_eq (st : Station) : scheduleEntry st = entryUnder st.record.limits
    ((st.sched.steps[st.sched.index]?.map ScheduleStep.target).getD 0) .schedule none (some (st.sched.index + 1)) := by
  unfold scheduleEntry
  cases st.sched.steps[st.sched.index]? <;> rfl

/-- A station whose held step, where there is one, has joined the queue. -/
def Station.spaced (st : Station) : Station :=
  { st with gap := { st.gap with queue := st.gap.queue ++ st.heldStep }, sched := st.sched.spaced }

/-- A space event outside IDLE (R43, R154). -/
theorem spaceEvent_eq {s : State} {i : StationId} (h : (s.st i).gap.state ≠ .idle) :
    s.spaceEvent i = s.modSt i Station.spaced := by
  unfold State.spaceEvent
  by_cases pending : (s.st i).sched.pending = true
  · have busy : ((s.modSched i fun c => { c with pending := false, state := .running }).st i).gap.state ≠ .idle := by
      rw [State.modSched, State.st_modSt_self]
      exact h
    unfold State.joinQueue
    dsimp only
    rw [if_pos pending, if_neg busy, State.modSched, State.modGap, State.modSt_modSt]
    refine State.modSt_congr ?_
    simp [Station.spaced, Station.heldStep, Schedule.spaced, pending, scheduleEntry_eq]
  · have fixed : (s.st i).spaced = s.st i := by
      simp [Station.spaced, Station.heldStep, Schedule.spaced, pending]
    dsimp only
    rw [if_neg pending, State.modSt_of_fixed fixed]

/-- An entry that joins outside IDLE stands at the tail (R43). -/
theorem enqueue_busy {s : State} {i : StationId} (h : (s.st i).gap.state ≠ .idle) (e : SettingEntry) :
    s.enqueue i e = s.modGap i fun g => { g with queue := g.queue ++ [e] } := by
  unfold State.enqueue State.joinQueue
  simp only [if_neg h]

/-- A station at the activation of an entry that is alone in the queue (R44). -/
def Station.activated (st : Station) (now : Ticks) (e : SettingEntry) : Station :=
  { st with gap := { st.gap with queue := [], move := some (activatedMove st now e), state := .moving } }

/-- The oldest entry becomes a SETTING move, and its target is handed to the lots (R44). -/
theorem activateHead_setting {s : State} {i : StationId} {e : SettingEntry} {rest : List SettingEntry}
    (head : (s.st i).gap.queue = e :: rest) (setting : e.origin ≠ .trim) :
    let m := activatedMove (s.st i) s.clock e
    s.activateHead i = (s.modGap i fun g => { g with queue := rest, move := some m, state := .moving }).handTarget i
      (m.eff.getD 0) := by
  have kind : (activatedMove (s.st i) s.clock e).kind = .setting := if_neg setting
  unfold State.activateHead
  dsimp only
  rw [head]
  exact if_pos kind

/-- An entry that joins an empty queue in IDLE is activated; its target is handed to the lots, and the space event follows (R43,
R44). -/
theorem enqueue_idle {s : State} {i : StationId} (idle : (s.st i).gap.state = .idle) (empty : (s.st i).gap.queue = [])
    {e : SettingEntry} (setting : e.origin ≠ .trim) :
    s.enqueue i e = ((s.modSt i fun st => st.activated s.clock e).handTarget i
      ((activatedMove (s.st i) s.clock e).eff.getD 0)).modSt i Station.spaced := by
  have joined : (s.modGap i fun g => { g with queue := g.queue ++ [e] }).st i =
      { s.st i with gap := { (s.st i).gap with queue := [e] } } := by
    rw [State.modGap, State.st_modSt_self, empty]
    rfl
  have head : ((s.modGap i fun g => { g with queue := g.queue ++ [e] }).st i).gap.queue = e :: [] := by rw [joined]
  have activated : s.joinQueue i e = (s.modSt i fun st => st.activated s.clock e).handTarget i
      ((activatedMove (s.st i) s.clock e).eff.getD 0) := by
    unfold State.joinQueue
    dsimp only
    rw [if_pos idle, activateHead_setting head setting, joined, State.modGap, State.modGap, State.modSt_modSt]
    exact congrArg (State.handTarget · i _) (State.modSt_congr rfl)
  have busy : ((s.joinQueue i e).st i).gap.state ≠ .idle := by
    rw [activated, handTarget_st, State.st_modSt_self]
    exact nofun
  unfold State.enqueue
  dsimp only
  rw [if_pos idle, spaceEvent_eq busy, activated]

/-- The station and the lots after an entry has joined an empty queue in IDLE (R44, R145, R154). -/
theorem enqueue_idle_activates {s : State} {i : StationId} (idle : (s.st i).gap.state = .idle)
    (empty : (s.st i).gap.queue = []) {e : SettingEntry} (setting : e.origin ≠ .trim) :
    (∃ lots, (s.enqueue i e).st i = Station.spaced { (s.st i).activated s.clock e with lots := lots }) ∧
      s.HandsTarget (s.enqueue i e) i ((activatedMove (s.st i) s.clock e).eff.getD 0) s.raised := by
  rw [enqueue_idle idle empty setting]
  have active : (s.modSt i fun st => st.activated s.clock e).st i = (s.st i).activated s.clock e :=
    State.st_modSt_self s i _
  generalize (activatedMove (s.st i) s.clock e).eff.getD 0 = eff
  constructor
  · refine ⟨(((s.modSt i fun st => st.activated s.clock e).handTarget i eff).st i).lots, ?_⟩
    rw [State.st_modSt_self, handTarget_st, active]
  · refine (handTarget_hands (s.modSt i fun st => st.activated s.clock e) i _).congr ?_ rfl ?_ ?_ rfl rfl
    · rw [active]
      rfl
    · rw [active]
      rfl
    · rw [State.st_modSt_self]
      rfl

/-! ## The end of a request's event -/

/-- The end of an event posts GAP_MOVE by the gap channel (R62). -/
theorem settleFeed_gapMove (s : State) (i : StationId) :
    ((s.settleFeed i).st i).feed.gapMove = (s.st i).gap.holdsMove := by
  have chained := ((chainSettle_step (s.modSt i (Station.syncReasons s.clock))).2 i).2
  rw [State.st_modSt_self] at chained
  unfold State.settleFeed
  rw [chained]
  rfl

/-- A request whose work at station `i` leaves `w`, after the end of its event and its reply. -/
theorem settled_reply {s w : State} {i : StationId} {dt : Ticks} (work : (s.elapse dt).Works w i) (kind : Byte)
    (a : Answer) :
    let t := (w.settleFeed i).reply kind a
    t.link = s.replied dt kind a ∧ s.OthersKept t i ∧ t.st i = { w.st i with feed := (t.st i).feed } ∧
      (t.st i).feed.gapMove = (w.st i).gap.holdsMove ∧ t.raised = w.raised ∧ t.lotQueue = w.lotQueue ∧
      t = { s with
        clock := s.clock + dt, stations := t.stations, raised := t.raised, lotQueue := t.lotQueue, link := t.link } := by
  obtain ⟨settled, others, self⟩ := settleFeed_step w i
  obtain ⟨frame, othersStand, -⟩ := work
  have link : (w.settleFeed i).link = (s.elapse dt).link := by rw [settled, frame]
  have clock : (w.settleFeed i).clock = (s.elapse dt).clock := by rw [settled, frame]
  refine ⟨reply_link_congr link clock kind a, fun j hj => ?_, self, settleFeed_gapMove w i, ?_, ?_, ?_⟩
  · have kept := others j hj
    rw [othersStand j hj] at kept
    exact kept
  · show (w.settleFeed i).raised = w.raised
    rw [settled]
  · show (w.settleFeed i).lotQueue = w.lotQueue
    rw [settled]
  · refine reply_frame ⟨(w.settleFeed i).stations, w.raised, w.lotQueue, ?_⟩ kind a
    rw [settled, frame]

/-! ## SET GAP APPEND -/

/-- The code that refuses an APPEND (R50, R51). -/
def Station.appendRefusal (st : Station) : Option ResultCode :=
  if st.gap.state = .isolated then some .isolated
  else if st.gap.state = .faulted then some .faulted
  else if st.record.zValid = false then some .noZero
  else if 4 ≤ st.gap.queue.length then some .queueFull else none

/-- APPEND is refused, or joins its entry to the queue (R50, R51). -/
theorem setGapAppend_eq (s : State) (i : StationId) (target tag : Nat) :
    s.setGapAppend i target tag = ((s.st i).appendRefusal.map fun c => (s, answer c)).getD
      ((s.enqueue i (linkEntry (s.st i) target tag)).settleFeed i,
        clampedOr (linkEntry (s.st i) target tag).clamped .accepted) := by
  unfold Station.appendRefusal State.setGapAppend
  dsimp only
  split
  · rename_i isolated
    rw [if_pos isolated]
    rfl
  · rename_i faulted
    rw [if_neg (by simp [faulted]), if_pos faulted]
    rfl
  · rename_i isolated faulted
    rw [if_neg isolated, if_neg faulted]
    by_cases zero : (s.st i).record.zValid = true
    · by_cases full : 4 ≤ (s.st i).gap.queue.length
      · simp [zero, full]
      · simp [zero, full]
    · simp [zero]

/-- The meaning of SET GAP APPEND at a station that is heard. -/
theorem exec_setGapAppend {s : State} {i : StationId} (h : s.HearsFor i) (dt target tag : Nat) :
    let r := (s.elapse dt).setGapAppend i target tag
    exec (.setGapAppend dt i.val target tag) s = .next (r.1.reply 0x01#8 r.2) :=
  congrArg Host.Outcome.next (answered_onNamed h dt 0x01#8 fun x j => x.setGapAppend j target tag)

/-- An APPEND that is refused changes nothing but the clock and the link (R50, R51). -/
theorem append_refused {s : State} {i : StationId} (h : s.HearsFor i) (dt target tag : Nat) {c : ResultCode}
    (refused : (s.st i).appendRefusal = some c) :
    Takes (.setGapAppend dt i.val target tag) s fun t =>
      t = { s with clock := s.clock + dt, link := s.replied dt 0x01#8 (answer c) } := by
  refine takes_of (exec_setGapAppend h dt target tag) ?_
  rw [setGapAppend_eq, State.st_elapse, refused]
  rfl

/-- An APPEND that is taken: its work is the joining of its entry, and its reply tells a clamped target (R49 to R51). -/
theorem append_taken {s : State} {i : StationId} (h : s.HearsFor i) (dt target tag : Nat)
    (taken : (s.st i).appendRefusal = none) :
    let w := (s.elapse dt).enqueue i (linkEntry (s.st i) target tag)
    let eff := clampTo (s.st i).record.limits.cssMin (s.st i).record.limits.cssMax target
    Takes (.setGapAppend dt i.val target tag) s fun t =>
      t.link = s.replied dt 0x01#8 (answer (if eff = target then .accepted else .clamped)) ∧ s.OthersKept t i ∧
        t.st i = { w.st i with feed := (t.st i).feed } ∧ (t.st i).feed.gapMove = (w.st i).gap.holdsMove ∧
        t.raised = w.raised ∧ t.lotQueue = w.lotQueue ∧
        t = { s with
          clock := s.clock + dt, stations := t.stations, raised := t.raised, lotQueue := t.lotQueue, link := t.link } := by
  intro w eff
  refine takes_of (exec_setGapAppend h dt target tag) ?_
  have clamped : (linkEntry (s.st i) target tag).clamped = (eff != target) := rfl
  rw [setGapAppend_eq, State.st_elapse, taken, clamped, clampedOr_bne]
  exact settled_reply (Works.enqueue _ i _) 0x01#8 _

/-- An APPEND in IDLE with a valid zero and an empty queue (R44, R50). -/
theorem appendRefusal_of_idle {s : State} {i : StationId} (idle : (s.st i).gap.state = .idle) (zero : (s.st i).record.zValid = true)
    (empty : (s.st i).gap.queue = []) : (s.st i).appendRefusal = none := by
  simp [Station.appendRefusal, idle, zero, empty]

/-- An APPEND with work under way, a valid zero and room in the queue (R51). -/
theorem appendRefusal_of_work {s : State} {i : StationId}
    (work : (s.st i).gap.state = .moving ∨ (s.st i).gap.state = .suspended ∨ (s.st i).gap.state = .relieved ∨
      (s.st i).gap.state = .restoring ∨ (s.st i).gap.state = .calibrating)
    (zero : (s.st i).record.zValid = true) (room : (s.st i).gap.queue.length < 4) :
    (s.st i).appendRefusal = none ∧ (s.st i).gap.state ≠ .idle := by
  have few : ¬4 ≤ (s.st i).gap.queue.length := by omega
  rcases work with h | h | h | h | h
  all_goals exact ⟨by simp [Station.appendRefusal, h, zero, few], by simp [h]⟩

/-- Settles O32: the activation in IDLE, the tail of the queue elsewhere, and the refusals. -/
theorem appendFormsEntry : Obligations.AppendFormsEntry := by
  refine ⟨fun s i dt target tag h idle zero empty => ?_, fun s i dt target tag h work zero room => ?_,
    fun s i dt target tag h => ?_⟩
  · refine (append_taken h dt target tag (appendRefusal_of_idle idle zero empty)).imp fun t taken => ?_
    obtain ⟨link, others, self, gapMove, raised, queue, frame⟩ := taken
    obtain ⟨⟨lots, active⟩, hands⟩ :=
      enqueue_idle_activates (s := s.elapse dt) (e := linkEntry (s.st i) target tag) idle empty nofun
    have handed := hands.congr (s' := s) rfl rfl rfl (by rw [self]) queue raised
    rw [active] at self gapMove
    refine ⟨link, ?_, handed, ?_, ?_, gapMove, others, frame⟩
    · rw [self]
      rfl
    · rw [self]
      rfl
    · rw [self]
      rfl
  · obtain ⟨taken, busy⟩ := appendRefusal_of_work work zero room
    refine (append_taken h dt target tag taken).imp fun t after => ?_
    obtain ⟨link, others, self, -, raised, queue, frame⟩ := after
    rw [enqueue_busy (s := s.elapse dt) busy, State.modGap] at self raised queue
    rw [State.st_modSt_self, State.st_elapse] at self
    rw [raised, queue] at frame
    refine ⟨link, ?_, ?_, ?_, others, frame⟩
    · rw [self]
      rfl
    · rw [self]
    · rw [self]
  · intro g code refused
    obtain ⟨c, hc⟩ := Option.ne_none_iff_exists'.mp refused
    rw [hc]
    exact append_refused h dt target tag hc

end Sys2Proof.Machine
end
